-- ==== Sys2Proof/Word.lean ====
section
/-! DEFINITION. The word types of the block: a byte is 8 bits (R13), and the wider values have the
widths that 10_state.md gives the registers. All values are unsigned (R13). -/

namespace Sys2Proof

/-- A byte, bit 7 most significant (R13). -/
abbrev Byte := BitVec 8

/-- 16 bits: a CRC-16, a source length, a CRC residual (R28, R48). -/
abbrev Half := BitVec 16

/-- 32 bits: a command argument, a block index or count, a tick value, an OCR (R26, R27, R46, R49). -/
abbrev Word := BitVec 32

/-- A buffer handle. The spec leaves handles opaque (R74). DESIGN CHOICE (log 6), unsafe: 64 bits,
read as the byte address of the buffer's first byte in the one host memory. -/
abbrev Handle := BitVec 64

end Sys2Proof
end

