-- ==== Sys2Proof/Syntax.lean ====
section
/-! DEFINITION. The instructions: one constructor for every row of spec/opcode_table.json, and the
host's request record (R91). -/

namespace Sys2Proof

/-- The request record `Req(op, idx, arg, size, start, count, buf, src, len, res_in)` of R91. Its fields
are also the operand registers that a request loads (R24 to R28). -/
structure Request where
  op    : BitVec 3
  idx   : BitVec 6
  arg   : Word
  size  : BitVec 5
  start : Word
  count : Word
  buf   : Handle
  src   : Handle
  len   : Half
  resIn : Half
  deriving DecidableEq, Repr, Inhabited

/-- The rows of the opcode table. The first eight are host requests (R92, R93), with the operands each
one uses. The next eleven are command frames (R95, R100): the nine frames whose 48 bits are all fixed,
CMD17 and CMD18 with their block index, and the generic frame CMDn for every other index and argument.
The three frames with variable bits keep the CRC field they carry, so that no bit of a frame is dropped
(log 12). The last is the data start token (R109). -/
inductive Instr
  | init
  | read (start count : Word) (buf : Handle)
  | cmd (idx : BitVec 6) (arg : Word)
  | cmdr (idx : BitVec 6) (arg : Word) (size : BitVec 5)
  | crc7 (src : Handle) (len resIn : Half)
  | crc16 (src : Handle) (len resIn : Half)
  | reservedOp0
  | reservedOp7
  | cmd0
  | cmd8
  | cmd9
  | cmd10
  | cmd12
  | cmd17 (start : Word) (crc : BitVec 7)
  | cmd18 (start : Word) (crc : BitVec 7)
  | cmd55
  | acmd41
  | cmd58
  | cmdn (idx : BitVec 6) (arg : Word) (crc : BitVec 7)
  | dataStartToken
  deriving DecidableEq, Repr

end Sys2Proof
end

