-- ==== Sys2Proof/Config.lean ====
section
/-! DEFINITION. The parameters of R8 (00_scope.md) and the free values. A parameter to which R8 gives a
value is a definition; a parameter R8 calls OPEN is an opaque constant with no body, so that a proof
holds for every admitted value. -/

namespace Sys2Proof.Config

/-- `BLOCK_LEN`: payload bytes of one data block (R8). -/
def blockLen : Nat := 512

/-- `REG_LEN`: payload bytes of a CSD or CID response (R8). -/
def regLen : Nat := 16

/-- `RESP_BYTES`: the size of the `resp` file, a register response and its CRC-16 (R8, R33). -/
def respBytes : Nat := 18

/-- `NCR_ATTEMPTS`: single-byte reads tried for R1 (R8, R162). -/
def ncrAttempts : BitVec 4 := 8

/-- `TOKEN_ATTEMPTS`: single-byte reads tried for the token of a CSD or CID response (R8, R164). -/
def tokenAttempts : BitVec 4 := 8

/-- `TOKEN_TIMEOUT_MS`: bound of READ's token wait (R8, R248). -/
def tokenTimeoutMs : Nat := 100

/-- `INIT_CLOCK_HZ` (R8; the exact value is decision D7, log 10). -/
def initClockHz : Nat := 400000

/-- `OP_CLOCK_HZ` (R8). -/
def opClockHz : Nat := 25000000

/-- `POWERON_TOGGLE_BYTES` (R8; the exact value is decision D8, log 10). -/
def powerOnToggleBytes : Nat := 10

/-- `END_TOGGLE_BYTES` (R8, R166). -/
def endToggleBytes : Nat := 1

/-- `CMD8_ARG` (R8, R103). -/
def cmd8Arg : Word := 0x000001AA

/-- `ACMD41_ARG` (R8, R100; the value is decision D12, log 10). -/
def acmd41Arg : Word := 0x40000000

/-- `STATUS_OK` (R8, R200). -/
def statusOk : Byte := 0x00

/-- `STATUS_NO_RESPONSE`, the sentinel of §7 (R8, R271). -/
def statusNoResponse : Byte := 0xFF

/-- OPEN (R8, D11): one less than `ACMD41_MAX_ITER`, or none for the value `∞`. No body: every admitted
bound (a natural number at least 1, or `∞`) is some value of it (log 9). -/
opaque acmd41Bound : Option Nat

/-- `ACMD41_MAX_ITER`: `some n` with `n ≥ 1`, or `none` for `∞` (R8, R213). -/
def acmd41MaxIter : Option Nat := acmd41Bound.map (· + 1)

/-- OPEN (R8, D13): `VddAcceptable`, a predicate on the OCR. No body (log 9). -/
opaque vddAcceptable : Word → Bool

/-- OPEN (R8, D16): `STATUS_CRC_FAIL`. No body (log 9). -/
opaque statusCrcFail : Byte

/-- OPEN (R8, D17): which of the 254 admitted values `STATUS_RANGE` has. No body (log 9). -/
opaque statusRangeIndex : Fin 254

/-- `STATUS_RANGE`: 0x01 to 0xFE, so neither 0x00 nor 0xFF (R8). -/
def statusRange : Byte := BitVec.ofNat 8 (statusRangeIndex.val + 1)

/-- Free value (R51, U1): the bytes the card sends once the script `card` of the state is used up. The
argument counts the draws. No body (log 1). -/
opaque cardByte : Nat → Byte

/-- Free value (R51, R288): the tick values once the script `ticks` of the state is used up. No body
(log 2). -/
opaque tickValue : Nat → Word

/-- Free value (R24): what the operand registers hold that an operation does not use. No body (log 8). -/
opaque unspecifiedOperands : Nat → Request

/-- What a byte of host memory that nothing has written reads as. DESIGN CHOICE (log 7), unsafe. -/
def unlistedByte : Byte := 0x00

end Sys2Proof.Config
end

