-- ==== Sys2Proof/Machine/Crc.lean ====
section
/-! DEFINITION. The two checksum units of 40_crc.md: the bit by bit definitions (R131, R141), the tables
by their generating rule (R134, R144) and the accumulator forms the hardware keeps (R133, R143). -/

namespace Sys2Proof.Machine

/-- The inner step of R131: shift one bit into the 7-bit remainder. -/
def crc7Bit (c : BitVec 7) (bit : Bool) : BitVec 7 :=
  if c.getLsbD 6 ^^ bit then (c <<< 1) ^^^ 0x09#7 else c <<< 1

/-- One byte of R131, bit 7 first. -/
def crc7Byte (c : BitVec 7) (b : Byte) : BitVec 7 :=
  [7, 6, 5, 4, 3, 2, 1, 0].foldl (fun c i => crc7Bit c (b.getLsbD i)) c

/-- `Crc7(buf, r)` (R131). -/
def crc7 (buf : List Byte) (r : BitVec 7) : BitVec 7 := buf.foldl crc7Byte r

/-- Eight repetitions, as R134, R141 and R144 ask for. -/
def eightTimes {α : Type} (f : α → α) (x : α) : α := f (f (f (f (f (f (f (f x)))))))

/-- The repeated step of R134. -/
def t7Step (a : Byte) : Byte := if a.getLsbD 7 then (a <<< 1) ^^^ 0x12#8 else a <<< 1

/-- The table entry `T7[i]` (R134). -/
def t7 (i : Byte) : Byte := eightTimes t7Step i

/-- `acc7` at the start: the residual in bits 7:1 (R133). -/
def acc7Init (r : BitVec 7) : Byte := r.setWidth 8 <<< 1

/-- `acc7 <- T7[acc7 XOR b]` (R133). -/
def acc7Step (a b : Byte) : Byte := t7 (a ^^^ b)

/-- The result `acc7 >> 1`, 7 bits (R133). -/
def acc7Result (a : Byte) : BitVec 7 := (a >>> 1).setWidth 7

/-- The repeated shift step of R141. -/
def crc16Shift (c : Half) : Half := if c.getLsbD 15 then (c <<< 1) ^^^ 0x1021#16 else c <<< 1

/-- One byte of R141. -/
def crc16Byte (c : Half) (b : Byte) : Half := eightTimes crc16Shift (c ^^^ (b.setWidth 16 <<< 8))

/-- `Crc16(buf, r)` (R141). -/
def crc16 (buf : List Byte) (r : Half) : Half := buf.foldl crc16Byte r

/-- The table entry `T16[i]` (R144). -/
def t16 (i : Byte) : Half := eightTimes crc16Shift (i.setWidth 16 <<< 8)

/-- `acc16 <- ((acc16 << 8) AND 0xFFFF) XOR T16[(acc16 >> 8) XOR b]` (R143). -/
def acc16Step (a : Half) (b : Byte) : Half := (a <<< 8) ^^^ t16 ((a >>> 8).setWidth 8 ^^^ b)

end Sys2Proof.Machine
end

