-- ==== Sys2Proof/Machine/Operands.lean ====
section
/-! DEFINITION. Operand forms: byte orders (R65 to R68), the command frame (R95 to R97) and the fields of
the card's responses (R101 to R106). -/

namespace Sys2Proof.Machine

/-- `be16(b0, b1)` (R13, R66). -/
def be16 (b0 b1 : Byte) : Half := b0 ++ b1

/-- `be32(b0, b1, b2, b3)` (R13, R68). -/
def be32 (b0 b1 b2 b3 : Byte) : Word := b0 ++ b1 ++ b2 ++ b3

/-- The two bytes of a 16-bit value, most significant first. -/
def bytes16 (h : Half) : List Byte := [h.extractLsb' 8 8, h.extractLsb' 0 8]

/-- The four bytes of a 32-bit value, most significant first: the argument bytes of a frame (R65). -/
def bytes32 (w : Word) : List Byte :=
  [w.extractLsb' 24 8, w.extractLsb' 16 8, w.extractLsb' 8 8, w.extractLsb' 0 8]

/-- The eight bytes of a handle, most significant first. -/
def bytes64 (h : Handle) : List Byte :=
  bytes32 (h.extractLsb' 32 32) ++ bytes32 (h.extractLsb' 0 32)

/-- Byte 0 of a frame: the index OR'd with 0x40 (R96). -/
def frameFirst (idx : BitVec 6) : Byte := 0x40#8 ||| idx.setWidth 8

/-- Byte 5 of a frame: the CRC-7 in bits 7:1 and the stop bit (R96, conflict C6). -/
def frameLast (crc : BitVec 7) : Byte := (crc.setWidth 8 <<< 1) ||| 1#8

/-- Bytes 0 to 4 of a frame, the bytes the CRC-7 covers (R95, R135). -/
def frameHead (idx : BitVec 6) (arg : Word) : List Byte := frameFirst idx :: bytes32 arg

/-- The CRC-7 field of a frame, residual 0 (R96, R135). -/
def frameCrc (idx : BitVec 6) (arg : Word) : BitVec 7 := crc7 (frameHead idx arg) 0

/-- `Frame(idx, arg)` (R97). -/
def frame (idx : BitVec 6) (arg : Word) : List Byte :=
  frameHead idx arg ++ [frameLast (frameCrc idx arg)]

/-- The OCR from the four bytes after R1 of CMD58 (R104). -/
def ocrOf (resp : Vector Byte 18) : Word := be32 resp[0] resp[1] resp[2] resp[3]

/-- The card's power-up bit, OCR bit 31 (R104). -/
def ocrPowerUp (ocr : Word) : Bool := ocr.getLsbD 31

/-- The card-capacity-status bit, OCR bit 30 (R104, R220). -/
def ocrCcs (ocr : Word) : Bool := ocr.getLsbD 30

/-- The voltage window, OCR bits 23:15 (R104); the block reads it only through `VddAcceptable`. -/
def ocrWindow (ocr : Word) : BitVec 9 := ocr.extractLsb' 15 9

/-- The echoed pattern byte of CMD8, `resp[3]` (R103). -/
def echoByte (resp : Vector Byte 18) : Byte := resp[3]

/-- The pattern CMD8 asks the card to echo, `arg[7:0]` of `CMD8_ARG` (R103). -/
def echoPattern : Byte := 0xAA

/-- The CSD size field `{csd[7][5:0], csd[8], csd[9]}`, 22 bits (R106, R224). -/
def cSize (resp : Vector Byte 18) : BitVec 22 := resp[7].extractLsb' 0 6 ++ resp[8] ++ resp[9]

/-- `((c_size + 1) * 1024) mod 2^32` (R224). -/
def blockCount (c : BitVec 22) : Word := (c.setWidth 32 + 1) * 1024

/-- The CRC-16 the CSD must carry: over the 16 register bytes `resp[0..15]` (R223). -/
def csdCrc (resp : Vector Byte 18) : Half := crc16 (resp.toList.take Config.regLen) 0

/-- The CRC-16 received after the CSD, `be16(resp[16], resp[17])` (R223). -/
def csdRxCrc (resp : Vector Byte 18) : Half := be16 resp[16] resp[17]

/-- A register response is wrapped in a data block for CMD9 and CMD10 only (R105, R164). -/
def tokenWrapped (idx : BitVec 6) : Bool := idx == 9 || idx == 10

end Sys2Proof.Machine
end

