-- ==== Sys2Proof/Machine/Flags.lean ====
section
/-! DEFINITION. The bits and conditions the block tests: the R1 bits (R101, R102), the data start token
(R109), the tick deadline (R248) and the range check (R242). -/

namespace Sys2Proof.Machine

/-- R1 bit 7, busy or not ready (R101, R102). -/
def r1Busy (r : Byte) : Bool := r.getLsbD 7

/-- R1 bit 6, parameter error (R101). Only the name is used by the spec: no rule tests bits 1 and 3 to 6. -/
def r1ParameterError (r : Byte) : Bool := r.getLsbD 6

/-- R1 bit 5, address error (R101). -/
def r1AddressError (r : Byte) : Bool := r.getLsbD 5

/-- R1 bit 4, erase-sequence error (R101). -/
def r1EraseSequenceError (r : Byte) : Bool := r.getLsbD 4

/-- R1 bit 3, CRC error: the card found the frame's CRC-7 wrong (R101). -/
def r1CrcError (r : Byte) : Bool := r.getLsbD 3

/-- R1 bit 2, illegal command (R101). -/
def r1IllegalCommand (r : Byte) : Bool := r.getLsbD 2

/-- R1 bit 1, erase reset (R101). -/
def r1EraseReset (r : Byte) : Bool := r.getLsbD 1

/-- R1 bit 0, idle state (R101). -/
def r1Idle (r : Byte) : Bool := r.getLsbD 0

/-- The only token value the block knows (R109). -/
def dataStartByte : Byte := 0xFE

/-- An R1 poll ends at a byte with bit 7 clear or when the attempts are used up (R162). -/
def pollEnds (r : Byte) (attempt : BitVec 4) : Bool := !r1Busy r || attempt == Config.ncrAttempts

/-- Elapsed milliseconds, `(now - t0) mod 2^32` (R248). -/
def elapsed (t0 now : Word) : Nat := (now - t0).toNat

/-- The token wait has run out: `(now - t0) mod 2^32 >= TOKEN_TIMEOUT_MS` (R241, R248). -/
def timedOut (t0 now : Word) : Bool := decide (Config.tokenTimeoutMs ≤ elapsed t0 now)

/-- READ's range check, in the naturals: `count = 0 or start + count - 1 > blocks` (R242). The bound is
the document's own, off by one (R321, log 15). -/
def outOfRange (start count blocks : Word) : Bool :=
  count == 0 || decide (start.toNat + count.toNat - 1 > blocks.toNat)

/-- The ACMD41 loop's bound is reached: `iter = ACMD41_MAX_ITER`, never true when it is `∞` (R202). -/
def iterExhausted (iter : Nat) : Bool := Config.acmd41MaxIter == some iter

/-- The CRC-16 computed over the payload equals the one received (R252). -/
def payloadCrcOk (acc16 rxCrc : Half) : Bool := acc16 == rxCrc

end Sys2Proof.Machine
end

