-- ==== Sys2Proof/WellFormed.lean ====
section
/-! DEFINITION. Which instruction terms stand for something the block can be given or can produce. Every
request is well-formed: reserved op codes and oversized responses are answered, not excluded (R93, R94).
A frame is well-formed exactly when its CRC field is the CRC-7 of its first five bytes (R98); and the
generic frame stands only for frames that have no row of their own. -/

namespace Sys2Proof

/-- The index and argument have a row of their own in the table (R100). -/
def ownRow (idx : BitVec 6) (arg : Word) : Bool :=
  idx == 17 || idx == 18 ||
  (arg == 0 && (idx == 0 || idx == 9 || idx == 10 || idx == 12 || idx == 55 || idx == 58)) ||
  (idx == 8 && arg == Config.cmd8Arg) || (idx == 41 && arg == Config.acmd41Arg)

/-- Well-formedness of an instruction term (R98). -/
def Instr.wellFormed : Instr → Bool
  | .init => true
  | .read _ _ _ => true
  | .cmd _ _ => true
  | .cmdr _ _ _ => true
  | .crc7 _ _ _ => true
  | .crc16 _ _ _ => true
  | .reservedOp0 => true
  | .reservedOp7 => true
  | .cmd0 => true
  | .cmd8 => true
  | .cmd9 => true
  | .cmd10 => true
  | .cmd12 => true
  | .cmd17 start crc => crc == Machine.frameCrc 17 start
  | .cmd18 start crc => crc == Machine.frameCrc 18 start
  | .cmd55 => true
  | .acmd41 => true
  | .cmd58 => true
  | .cmdn idx arg crc => crc == Machine.frameCrc idx arg && !ownRow idx arg
  | .dataStartToken => true

end Sys2Proof
end

