-- ==== Sys2Proof/Decode.lean ====
section
/-! DEFINITION. The decoder, total on any bytes and rejecting by name, and after it the encoder. The first
byte tells the three formats apart: a request begins with its op code (0x00 to 0x07, R92), a frame with
the prefix `0b01` (0x40 to 0x7F, R95), and the token is the byte 0xFE (R109). The layout of the request
record in bytes is the model's: DESIGN CHOICE (log 11). A frame's bytes are in the order they are sent,
bit 47 first (R95, log 12). -/

namespace Sys2Proof

/-- Why bytes are no instruction. -/
inductive DecodeError
  /-- No byte at all. -/
  | noBytes
  /-- The first byte opens neither a request nor a frame and is not the token. -/
  | unknownFirstByte (b : Byte)
  /-- A request record of fewer than 35 bytes. -/
  | shortRequest
  /-- Bits beyond the 6 of `idx` or the 5 of `size` are set. -/
  | wideField
  /-- A frame of fewer than 6 bytes. -/
  | shortFrame
  /-- A frame whose last bit is not 1 (R98). -/
  | stopBitClear
  deriving DecidableEq, Repr

/-- `be64`: a handle from its eight bytes, most significant first (log 11). -/
def be64 (b0 b1 b2 b3 b4 b5 b6 b7 : Byte) : Handle :=
  Machine.be32 b0 b1 b2 b3 ++ Machine.be32 b4 b5 b6 b7

/-- The instruction a request record stands for: its op code chooses it, and fields the operation does
not use are ignored (R91, R92, R93). -/
def Request.toInstr (r : Request) : Instr :=
  if r.op = 1 then .init
  else if r.op = 2 then .read r.start r.count r.buf
  else if r.op = 3 then .cmd r.idx r.arg
  else if r.op = 4 then .cmdr r.idx r.arg r.size
  else if r.op = 5 then .crc7 r.src r.len r.resIn
  else if r.op = 6 then .crc16 r.src r.len r.resIn
  else if r.op = 0 then .reservedOp0
  else .reservedOp7

/-- The instruction a frame with these fields stands for (R98, R100). -/
def frameInstr (idx : BitVec 6) (arg : Word) (crc : BitVec 7) : Instr :=
  if idx = 17 then .cmd17 arg crc
  else if idx = 18 then .cmd18 arg crc
  else if idx = 0 ∧ arg = 0 ∧ crc = 0x4A then .cmd0
  else if idx = 8 ∧ arg = Config.cmd8Arg ∧ crc = 0x43 then .cmd8
  else if idx = 9 ∧ arg = 0 ∧ crc = 0x57 then .cmd9
  else if idx = 10 ∧ arg = 0 ∧ crc = 0x0D then .cmd10
  else if idx = 12 ∧ arg = 0 ∧ crc = 0x30 then .cmd12
  else if idx = 55 ∧ arg = 0 ∧ crc = 0x32 then .cmd55
  else if idx = 41 ∧ arg = Config.acmd41Arg ∧ crc = 0x3B then .acmd41
  else if idx = 58 ∧ arg = 0 ∧ crc = 0x7E then .cmd58
  else .cmdn idx arg crc

/-- A request record of 35 bytes, after its first byte (log 11). -/
def decodeRequest (op : Byte) : List Byte → Except DecodeError (Instr × List Byte)
  | ix :: a0 :: a1 :: a2 :: a3 :: sz :: s0 :: s1 :: s2 :: s3 :: c0 :: c1 :: c2 :: c3 ::
      u0 :: u1 :: u2 :: u3 :: u4 :: u5 :: u6 :: u7 :: v0 :: v1 :: v2 :: v3 :: v4 :: v5 :: v6 :: v7 ::
      l0 :: l1 :: r0 :: r1 :: rest =>
    if ix.extractLsb' 6 2 = 0 ∧ sz.extractLsb' 5 3 = 0 then
      .ok (Request.toInstr
        { op := op.setWidth 3, idx := ix.setWidth 6, arg := Machine.be32 a0 a1 a2 a3,
          size := sz.setWidth 5, start := Machine.be32 s0 s1 s2 s3, count := Machine.be32 c0 c1 c2 c3,
          buf := be64 u0 u1 u2 u3 u4 u5 u6 u7, src := be64 v0 v1 v2 v3 v4 v5 v6 v7,
          len := Machine.be16 l0 l1, resIn := Machine.be16 r0 r1 }, rest)
    else .error .wideField
  | _ => .error .shortRequest

/-- A frame of 6 bytes, after its first byte: `idx = F[45:40]`, `arg = F[39:8]`, the CRC field
`F[7:1]` and the stop bit `F[0]` (R95, R98). -/
def decodeFrame (b0 : Byte) : List Byte → Except DecodeError (Instr × List Byte)
  | b1 :: b2 :: b3 :: b4 :: b5 :: rest =>
    if b5.getLsbD 0 then
      .ok (frameInstr (b0.setWidth 6) (Machine.be32 b1 b2 b3 b4) (b5.extractLsb' 1 7), rest)
    else .error .stopBitClear
  | _ => .error .shortFrame

/-- The decoder: the instruction the bytes begin with, and the bytes after it. -/
def decode : List Byte → Except DecodeError (Instr × List Byte)
  | [] => .error .noBytes
  | b0 :: rest =>
    if b0 = 0xFE then .ok (.dataStartToken, rest)
    else if b0.extractLsb' 3 5 = 0 then decodeRequest b0 rest
    else if b0.extractLsb' 6 2 = 1 then decodeFrame b0 rest
    else .error (.unknownFirstByte b0)

/-- The request record in bytes, in the order of R91, most significant byte first (log 11). -/
def Request.toBytes (r : Request) : List Byte :=
  r.op.setWidth 8 :: r.idx.setWidth 8 :: (Machine.bytes32 r.arg ++ (r.size.setWidth 8 ::
    (Machine.bytes32 r.start ++ (Machine.bytes32 r.count ++ (Machine.bytes64 r.buf ++
      (Machine.bytes64 r.src ++ (Machine.bytes16 r.len ++ Machine.bytes16 r.resIn)))))))

/-- A request with every field zero but the op code. -/
def Request.blank (op : BitVec 3) : Request :=
  { op := op, idx := 0, arg := 0, size := 0, start := 0, count := 0, buf := 0, src := 0, len := 0, resIn := 0 }

/-- The bytes of an instruction, written from R92 (op codes) and the frame column of R100. Fields an
operation does not use are zero. -/
def encode : Instr → List Byte
  | .init => (Request.blank 1).toBytes
  | .read start count buf => { Request.blank 2 with start := start, count := count, buf := buf }.toBytes
  | .cmd idx arg => { Request.blank 3 with idx := idx, arg := arg }.toBytes
  | .cmdr idx arg size => { Request.blank 4 with idx := idx, arg := arg, size := size }.toBytes
  | .crc7 src len resIn => { Request.blank 5 with src := src, len := len, resIn := resIn }.toBytes
  | .crc16 src len resIn => { Request.blank 6 with src := src, len := len, resIn := resIn }.toBytes
  | .reservedOp0 => (Request.blank 0).toBytes
  | .reservedOp7 => (Request.blank 7).toBytes
  | .cmd0 => [0x40, 0x00, 0x00, 0x00, 0x00, 0x95]
  | .cmd8 => [0x48, 0x00, 0x00, 0x01, 0xAA, 0x87]
  | .cmd9 => [0x49, 0x00, 0x00, 0x00, 0x00, 0xAF]
  | .cmd10 => [0x4A, 0x00, 0x00, 0x00, 0x00, 0x1B]
  | .cmd12 => [0x4C, 0x00, 0x00, 0x00, 0x00, 0x61]
  | .cmd17 start crc => 0x51 :: (Machine.bytes32 start ++ [Machine.frameLast crc])
  | .cmd18 start crc => 0x52 :: (Machine.bytes32 start ++ [Machine.frameLast crc])
  | .cmd55 => [0x77, 0x00, 0x00, 0x00, 0x00, 0x65]
  | .acmd41 => [0x69, 0x40, 0x00, 0x00, 0x00, 0x77]
  | .cmd58 => [0x7A, 0x00, 0x00, 0x00, 0x00, 0xFD]
  | .cmdn idx arg crc => Machine.frameFirst idx :: (Machine.bytes32 arg ++ [Machine.frameLast crc])
  | .dataStartToken => [0xFE]

/-- The bytes of a table word of `nbits` bits. The table numbers a frame as one 48-bit word whose bit 47
is sent first (R95), so the most significant byte of the word is the first byte; a request's op code and
the token are one byte. Zero bytes follow, up to the longest instruction. -/
def tableBytes (nbits w : Nat) : List Byte :=
  let n := (nbits + 7) / 8
  (List.range n).map (fun k => BitVec.ofNat 8 (w >>> (8 * (n - 1 - k)))) ++ List.replicate 34 0

/-- The instruction the decoder reads from a word of spec/opcode_table.json. -/
def decodeTableWord (nbits w : Nat) : Option Instr :=
  match decode (tableBytes nbits w) with
  | .ok (i, _) => some i
  | .error _ => none

end Sys2Proof
end

