-- ==== Sys2Proof/Machine/State.lean ====
section
/-! DEFINITION. The state of the block (10_state.md), the host memory it reaches (20_memory.md), the ghost
event history (R52), the environment's scripts (R51) and the state after reset (R53). All of it is plain
data. -/

namespace Sys2Proof.Machine

/-- The `kind` codes 0 to 9 of R272, in order. Codes 10 to 15 are never produced, so no constructor
stands for one. -/
inductive Kind
  | ok | errR1 | errNoResponse | errFraming | errVoltage | errOpcondTimeout | errTokenTimeout | errCrc
  | errRange | refused
  deriving DecidableEq, Repr

/-- The 4-bit code of a kind (R272). -/
def Kind.code : Kind → BitVec 4
  | .ok => 0
  | .errR1 => 1
  | .errNoResponse => 2
  | .errFraming => 3
  | .errVoltage => 4
  | .errOpcondTimeout => 5
  | .errTokenTimeout => 6
  | .errCrc => 7
  | .errRange => 8
  | .refused => 9

/-- The chip-select line as the block last left it (R39). -/
inductive ChipSelect | asserted | deasserted
  deriving DecidableEq, Repr

/-- The data-out line's hold (R40). -/
inductive MosiHold | released | held0 | held1
  deriving DecidableEq, Repr

/-- The values of `major` (R36). -/
inductive Major
  | idle | k7 | k16 | x1 | x2
  | i1 | i2 | i3 | i4 | i5 | i6a | i6b | i7 | i8 | i9 | i10
  | b1 | b2 | b3 | b4 | b5 | b6 | b7 | b8 | b9
  deriving DecidableEq, Repr

/-- The values of `minor` (R36). -/
inductive Minor | none | t1 | t2 | t3 | t4 | t9
  deriving DecidableEq, Repr

/-- The sequencer's position (R35). -/
structure Phase where
  major : Major
  minor : Minor
  deriving DecidableEq, Repr

/-- Which of the three events of `RxBytes` is next while its label is pending (R17). The model's own
field (log 14). -/
inductive RxStage | hold | read | release
  deriving DecidableEq, Repr

/-- The events of R12: requests and responses, the transport primitives of R14, tick reads (R15) and
one-byte memory accesses (R16). `write`, `read` and `holdMosi false` are primitives the transport has
and the block never uses (R167). -/
inductive Event
  | request (i : Instr)
  | response (kind : Kind) (status : Byte)
  | writeContinue (bytes : List Byte)
  | readContinue (bytes : List Byte)
  | write (bytes : List Byte)
  | read (bytes : List Byte)
  | holdMosi (level : Bool)
  | releaseMosi
  | setClock (hz : Nat)
  | toggle (n : Nat)
  | tick (t : Word)
  | memWrite (buf : Handle) (off : Nat) (v : Byte)
  | memRead (src : Handle) (off : Nat) (v : Byte)
  deriving DecidableEq, Repr

/-- Host memory: (address, byte) pairs, addresses strictly rising, no entry equal to what an unlisted
address reads as (`Memory.wf`, Machine/Ops.lean). -/
abbrev Memory := List Host.Cell

/-- The state. The groups follow the sections of 10_state.md; the last group is the model's own. -/
structure State where
  /-- R21 -/
  blocks : Word
  /-- R22 -/
  ccs : Bool
  /-- The operand registers `op`, `idx`, `arg`, `size`, `start`, `count`, `buf`, `src`, `len`, `res_in`
  (R25 to R28), loaded all at once (R24). -/
  ops : Request
  /-- R31 -/
  status : Byte
  /-- R31 -/
  kind : Kind
  /-- R32 -/
  r1 : Byte
  /-- R33 -/
  resp : Vector Byte 18
  /-- `crc_out`, R34 -/
  crcOut : Half
  /-- R38 -/
  busy : Bool
  /-- R35 -/
  phase : Phase
  /-- R39 -/
  cs : ChipSelect
  /-- `mosi_hold`, R40 -/
  mosiHold : MosiHold
  /-- `clk_hz`, R41 -/
  clkHz : Nat
  /-- R42 -/
  v2 : Bool
  /-- R43 -/
  attempt : BitVec 4
  /-- R44 -/
  iter : Nat
  /-- `blk_i`, R45 -/
  blkI : Word
  /-- The payload byte index of R45 and R251: the low nine bits of `off`. -/
  j : BitVec 9
  /-- `pay[0..511]`, R45 -/
  pay : Vector Byte 512
  /-- R46 -/
  t0 : Word
  /-- R46 -/
  now : Word
  /-- R47 -/
  tok : Byte
  /-- `token_missing`, R47 -/
  tokenMissing : Bool
  /-- R48 -/
  acc7 : Byte
  /-- R48 -/
  acc16 : Half
  /-- `rx_crc`, R48 -/
  rxCrc : Half
  /-- R49 -/
  ocr : Word
  /-- `ccs_new`, R49 -/
  ccsNew : Bool
  /-- Every event so far, newest first (R52). -/
  history : List Event
  /-- Host memory, in which `BUF` and `SRC` lie (R62, R63). -/
  mem : Memory
  /-- The loop variable `k` of R137 and R147 (the model's field, log 17). -/
  k : Half
  /-- The next event of a pending `RxBytes` (the model's field, log 14). -/
  rxStage : RxStage
  /-- The host's pending requests, oldest first (the model's field, log 3). -/
  requests : List Request
  /-- The bytes the card will send next (the model's field, log 1). -/
  card : List Byte
  /-- How many bytes were drawn from `Config.cardByte` (the model's field, log 1). -/
  cardCount : Nat
  /-- The tick values that will be read next (the model's field, log 2). -/
  ticks : List Word
  /-- How many values were drawn from `Config.tickValue` (the model's field, log 2). -/
  tickCount : Nat
  /-- How many times `Config.unspecifiedOperands` was drawn (the model's field, log 8). -/
  freeCount : Nat
  deriving DecidableEq, Repr

/-- What stops the machine. The block itself has no fault (R270). -/
inductive Fault
  /-- Raised by the sequencer when `busy` is set and the phase pair is none that R36 and the pseudocode
  give. No run from reset reaches such a state. Safe: the machine stops (log 16). -/
  | strayPhase
  deriving DecidableEq, Repr

/-- What the model refuses. -/
inductive Refusal
  /-- Raised by `exec` for an instruction that has no meaning yet. Safe. -/
  | notModelled (mnemonic : String)
  /-- Raised by the meaning of a host operation while `busy` is set: the block gives such a request no
  step (R38, U2). Safe (log 4). -/
  | requestWhileBusy
  /-- Raised by the meaning of the data start token outside a token wait: there the byte 0xFE is an R1
  or a data byte and no token (R102, R109). Safe (log 22). -/
  | tokenOutsideWait
  /-- Raised by `step` if fetched bytes do not decode. Never raised: the host and the framer produce only
  requests and frames. Safe. -/
  | undecodable (e : DecodeError)
  deriving DecidableEq, Repr

/-- The outcome of a step of this machine. -/
abbrev Result := Host.Outcome State Fault Refusal

/-- What the host may read when the block is not busy (R291). -/
structure HostView where
  blocks : Word
  ccs    : Bool
  status : Byte
  kind   : Kind
  r1     : Byte
  resp   : Vector Byte 18
  crcOut : Half
  deriving DecidableEq, Repr

/-- The document's conceptual states of INIT (R201). Its `IDLE` is the moment between two of them and
`READY` and `FAILED` are the two classes of response, so none of the three is a phase. -/
inductive InitStage | cardReset | voltageCheck | v1Branch | v2Branch
  deriving DecidableEq, Repr

/-- The block at rest (R36). -/
def Phase.rest : Phase := ⟨.idle, .none⟩

/-- The state after reset (R53). `blocks`, `ccs`, `busy`, `phase`, `cs` and `mosi_hold` have the values of
R53. Every register R53 calls unspecified is zero: DESIGN CHOICE (log 5), unsafe. No event has happened
(R302), no request is pending and the environment has no script (log 1 to log 3). -/
def State.reset : State where
  blocks := 0
  ccs := false
  ops := Request.blank 0
  status := 0
  kind := .ok
  r1 := 0
  resp := Vector.replicate 18 0
  crcOut := 0
  busy := false
  phase := Phase.rest
  cs := .deasserted
  mosiHold := .released
  clkHz := 0
  v2 := false
  attempt := 0
  iter := 0
  blkI := 0
  j := 0
  pay := Vector.replicate 512 0
  t0 := 0
  now := 0
  tok := 0
  tokenMissing := false
  acc7 := 0
  acc16 := 0
  rxCrc := 0
  ocr := 0
  ccsNew := false
  history := []
  mem := []
  k := 0
  rxStage := .hold
  requests := []
  card := []
  cardCount := 0
  ticks := []
  tickCount := 0
  freeCount := 0

end Sys2Proof.Machine
end

