-- ==== Sys2Proof/Machine/Ops.lean ====
section
/-! DEFINITION. The named operations over the state: host memory (R62, R63), the environment's answers
(R51), the events of R12 as state updates, the response (R31), the start of a host operation (R24, R38),
`BeginTransaction` (R161) and the three events of `RxBytes` (R17). -/

namespace Sys2Proof.Machine

/-! ### Host memory -/

/-- The canonical form: addresses strictly rising and no entry that an unlisted address would give. -/
def Memory.wf (m : Memory) : Bool :=
  decide (m.Pairwise (fun x y => x.1 < y.1)) && m.all (fun x => x.2 != Config.unlistedByte)

/-- One byte of host memory; an unlisted address reads as `Config.unlistedByte` (log 7). -/
def Memory.read : Memory → Nat → Byte
  | [], _ => Config.unlistedByte
  | (a, v) :: m, x => if x = a then v else Memory.read m x

/-- Write one byte and keep the canonical form. -/
def Memory.write : Memory → Nat → Byte → Memory
  | [], x, v => if v = Config.unlistedByte then [] else [(x, v)]
  | (a, u) :: m, x, v =>
    if x < a then (if v = Config.unlistedByte then (a, u) :: m else (x, v) :: (a, u) :: m)
    else if x = a then (if v = Config.unlistedByte then m else (x, v) :: m)
    else (a, u) :: Memory.write m x v

/-! ### The environment's answers -/

/-- `n` bytes from the card: from the script while it lasts, then free values. The result is the bytes,
what is left of the script, and the count of free values drawn (R51, log 1). -/
def drawBytes : Nat → List Byte → Nat → List Byte × List Byte × Nat
  | 0, script, c => ([], script, c)
  | n + 1, [], c =>
    let r := drawBytes n [] (c + 1)
    (Config.cardByte c :: r.1, r.2)
  | n + 1, b :: script, c =>
    let r := drawBytes n script c
    (b :: r.1, r.2)

/-- The next `n` bytes the card sends. -/
def State.incoming (s : State) (n : Nat) : List Byte := (drawBytes n s.card s.cardCount).1

/-- The next tick value (R15, log 2). -/
def State.nextTick (s : State) : Word := s.ticks.headD (Config.tickValue s.tickCount)

/-- The value the `n`-th of the next tick reads will return, counted from 0 (R15, R51). -/
def State.tickAt (s : State) (n : Nat) : Word :=
  s.ticks.getD n (Config.tickValue (s.tickCount + (n - s.ticks.length)))

/-- The `n`-th of the next bytes the card will send, counted from 0 (R51). -/
def State.byteAt (s : State) (n : Nat) : Byte :=
  s.card.getD n (Config.cardByte (s.cardCount + (n - s.card.length)))

/-! ### Events as state updates -/

/-- Append an event to the history (R52). -/
def State.log (s : State) (e : Event) : State := { s with history := e :: s.history }

/-- `goto <label>` (R16, R37). -/
def State.goto (s : State) (major : Major) (minor : Minor) : State :=
  { s with phase := ⟨major, minor⟩ }

/-- `WriteContinue(bytes)`: leaves chip-select asserted (R14, R39). -/
def State.writeContinue (s : State) (bytes : List Byte) : State :=
  { s with cs := .asserted }.log (.writeContinue bytes)

/-- `ReadContinue(n)`: takes `n` bytes from the card and leaves chip-select asserted (R14, R39, R73). -/
def State.readContinue (s : State) (n : Nat) : State :=
  let r := drawBytes n s.card s.cardCount
  { s with card := r.2.1, cardCount := r.2.2, cs := .asserted }.log (.readContinue r.1)

/-- `HoldMosi(1)` (R14, R40, R175). -/
def State.holdMosi (s : State) : State := { s with mosiHold := .held1 }.log (.holdMosi true)

/-- `ReleaseMosi()` (R14, R40, R175). -/
def State.releaseMosi (s : State) : State := { s with mosiHold := .released }.log .releaseMosi

/-- `SetClock(hz)` (R14, R41, R173). -/
def State.setClock (s : State) (hz : Nat) : State := { s with clkHz := hz }.log (.setClock hz)

/-- `Toggle(n)`: chip-select forced high (R14, R39, R174). -/
def State.toggle (s : State) (n : Nat) : State := { s with cs := .deasserted }.log (.toggle n)

/-- `Tick()`: the value read is `nextTick` (R15). -/
def State.readTick (s : State) : State :=
  { s with ticks := s.ticks.tail,
           tickCount := if s.ticks.isEmpty then s.tickCount + 1 else s.tickCount }.log
    (.tick s.nextTick)

/-- The host address a handle and an offset name (log 6). -/
def address (h : Handle) (off : Nat) : Nat := h.toNat + off

/-- The byte `MemRead(SRC + off, 1)` returns (R16, R63). -/
def State.srcByte (s : State) (off : Nat) : Byte := s.mem.read (address s.ops.src off)

/-- `MemRead(SRC + off, 1)` as an event (R16). -/
def State.memRead (s : State) (off : Nat) : State := s.log (.memRead s.ops.src off (s.srcByte off))

/-- `MemWrite(BUF + off, 1, v)` (R16, R62). -/
def State.memWrite (s : State) (off : Nat) (v : Byte) : State :=
  { s with mem := s.mem.write (address s.ops.buf off) v }.log (.memWrite s.ops.buf off v)

/-- `off = 512 * blk_i + j` (R45, R62). -/
def State.off (s : State) : Nat := Config.blockLen * s.blkI.toNat + s.j.toNat

/-- Put bytes into a register file in order of reception from index `k` on; registers the bytes do not
reach keep their value (R33). -/
def storeFrom {n : Nat} (v : Vector Byte n) (k : Nat) : List Byte → Vector Byte n
  | [] => v
  | b :: bs => storeFrom (v.setIfInBounds k b) (k + 1) bs

/-! ### Ending an operation -/

/-- `return (kind, status)`: writes the two result registers, clears `busy`, sets `phase` to
`(IDLE, NONE)` and raises the response, in one step (R31). This is what stands in the place of taking an
exception (R277): nothing is saved and control goes nowhere. -/
def State.respond (s : State) (k : Kind) (st : Byte) : State :=
  { s with kind := k, status := st, busy := false, phase := Phase.rest }.log (.response k st)

/-- The status that `SendCommandWithResult` returns: the sentinel when the token was missing, else R1
(R164). -/
def State.resultStatus (s : State) : Byte := if s.tokenMissing then Config.statusNoResponse else s.r1

/-! ### Starting an operation -/

/-- Accept a request: only when `busy` is clear (R38); the operand registers are loaded, those the
operation does not use with unspecified values (R24, log 8); `run` is what the operation does in the same
step. -/
def accept (i : Instr) (load : Request → Request) (run : State → State) (s : State) : Result :=
  if s.busy then .refused .requestWhileBusy
  else .next (run ({ s with busy := true, ops := load (Config.unspecifiedOperands s.freeCount),
                            freeCount := s.freeCount + 1 }.log (.request i)))

/-- A request with a reserved op code: answered at once, and no register but `kind`, `status`, `busy` and
`phase` changes (R93). -/
def answerReserved (i : Instr) (s : State) : Result :=
  if s.busy then .refused .requestWhileBusy
  else .next ((s.log (.request i)).respond .refused Config.statusNoResponse)

/-! ### Transactions -/

/-- `BeginTransaction(i, a)`: one `WriteContinue` of the frame; the R1 poll is next, with `attempt`
cleared. It checks nothing (R161, R162). -/
def State.beginTransaction (s : State) (idx : BitVec 6) (arg : Word) : State :=
  { s.writeContinue (frame idx arg) with attempt := 0, phase := ⟨s.phase.major, .t2⟩ }

/-- `SendCommandWithResult` begins at the step `major`: `token_missing` is cleared, before any event of the
call (R47), and the frame is next (R164). The clearing falls into the step before the frame's (log 14,
log 23). -/
def State.callWithResult (s : State) (major : Major) : State :=
  { s with tokenMissing := false }.goto major .t1

/-- `RxBytes(n)`, one event a step: `HoldMosi(1)`, then `ReadContinue(n)` whose bytes `store` puts into
registers, then `ReleaseMosi()` and whatever the pseudocode does next, `after` (R17, R35, log 14). -/
def rxBytes (n : Nat) (store : List Byte → State → State) (after : State → State) (s : State) : State :=
  match s.rxStage with
  | .hold => { s.holdMosi with rxStage := .read }
  | .read => { store (s.incoming n) (s.readContinue n) with rxStage := .release }
  | .release => after { s.releaseMosi with rxStage := .hold }

/-! ### What the host sees -/

/-- The registers the host may read, and only when the block is not busy (R291, R226). -/
def State.hostView (s : State) : Option HostView :=
  if s.busy then none
  else some { blocks := s.blocks, ccs := s.ccs, status := s.status, kind := s.kind, r1 := s.r1,
              resp := s.resp, crcOut := s.crcOut }

end Sys2Proof.Machine
end

