-- ==== Sys2Proof/Machine/CrcOps.lean ====
section
/-! DEFINITION. The host operations CRC7 (R137) and CRC16 (R147): the request, and the step that reads one
source byte. -/

namespace Sys2Proof.Machine

/-- The end of CRC7: `crc_out <- zext_16(acc7 >> 1)`, then the response (R137). -/
def finishCrc7 (s : State) : State :=
  { s with crcOut := (acc7Result s.acc7).setWidth 16 }.respond .ok Config.statusOk

/-- The end of CRC16: `crc_out <- acc16`, then the response (R147). -/
def finishCrc16 (s : State) : State := { s with crcOut := s.acc16 }.respond .ok Config.statusOk

/-- Host operation `CRC7 src, len, res` (R137): `acc7 <- res_in[6:0] << 1`; with `len` = 0 no byte is read
and the response follows at once. -/
def execCrc7 (src : Handle) (len resIn : Half) (s : State) : Result :=
  accept (.crc7 src len resIn) (fun r => { r with op := 5, src := src, len := len, resIn := resIn })
    (fun s =>
      let s := { s with acc7 := acc7Init (resIn.setWidth 7) }
      if len = 0 then finishCrc7 s else { s with k := 0 }.goto .k7 .none) s

/-- Host operation `CRC16 src, len, res` (R147). -/
def execCrc16 (src : Handle) (len resIn : Half) (s : State) : Result :=
  accept (.crc16 src len resIn) (fun r => { r with op := 6, src := src, len := len, resIn := resIn })
    (fun s =>
      let s := { s with acc16 := resIn }
      if len = 0 then finishCrc16 s else { s with k := 0 }.goto .k16 .none) s

/-- `K7`: one `MemRead(SRC + k, 1)` and the table step; after the last byte the response (R137). -/
def stepK7 (s : State) : State :=
  let s' := { s.memRead s.k.toNat with acc7 := acc7Step s.acc7 (s.srcByte s.k.toNat), k := s.k + 1 }
  if s'.k = s.ops.len then finishCrc7 s' else s'

/-- `K16`: one `MemRead(SRC + k, 1)` and the table step; after the last byte the response (R147). -/
def stepK16 (s : State) : State :=
  let s' := { s.memRead s.k.toNat with acc16 := acc16Step s.acc16 (s.srcByte s.k.toNat), k := s.k + 1 }
  if s'.k = s.ops.len then finishCrc16 s' else s'

end Sys2Proof.Machine
end

