-- ==== Sys2Proof/Machine/Frames.lean ====
section
/-! DEFINITION. The meanings of the eleven command frames of the opcode table. A frame is executed where
the sequencer stands at a label `T1`: it is the `WriteContinue` of `BeginTransaction` (R161), which frames
any index and argument and never fails. The framer computes the CRC-7 itself (R96), so the CRC field of a
frame term is no operand; a well-formed term carries that very CRC (R98, log 12). What the card answers,
and what the running operation does with the answer, is the sequencer's. -/

namespace Sys2Proof.Machine

/-- CMD0, GO_IDLE_STATE (R206). -/
def execCmd0 (s : State) : Result := .next (s.beginTransaction 0 0)

/-- CMD8, SEND_IF_COND (R207). -/
def execCmd8 (s : State) : Result := .next (s.beginTransaction 8 Config.cmd8Arg)

/-- CMD9, SEND_CSD (R221, R222). -/
def execCmd9 (s : State) : Result := .next (s.beginTransaction 9 0)

/-- CMD10, SEND_CID (R170). -/
def execCmd10 (s : State) : Result := .next (s.beginTransaction 10 0)

/-- CMD12, STOP_TRANSMISSION (R255). -/
def execCmd12 (s : State) : Result := .next (s.beginTransaction 12 0)

/-- CMD17, READ_SINGLE_BLOCK, with the block index unscaled (R244, R245). -/
def execCmd17 (start : Word) (_crc : BitVec 7) (s : State) : Result := .next (s.beginTransaction 17 start)

/-- CMD18, READ_MULTIPLE_BLOCK, with the block index unscaled (R244, R245). -/
def execCmd18 (start : Word) (_crc : BitVec 7) (s : State) : Result := .next (s.beginTransaction 18 start)

/-- CMD55, APP_CMD (R213, R215). -/
def execCmd55 (s : State) : Result := .next (s.beginTransaction 55 0)

/-- ACMD41, SD_SEND_OP_COND, index 41 (R213). -/
def execAcmd41 (s : State) : Result := .next (s.beginTransaction 41 Config.acmd41Arg)

/-- CMD58, READ_OCR (R210, R219). -/
def execCmd58 (s : State) : Result := .next (s.beginTransaction 58 0)

/-- CMDn, any other index and argument, which only CMD and CMDR send (R99, R110). -/
def execCmdn (idx : BitVec 6) (arg : Word) (_crc : BitVec 7) (s : State) : Result :=
  .next (s.beginTransaction idx arg)

end Sys2Proof.Machine
end

