-- ==== Sys2Proof/Machine/Reserved.lean ====
section
/-! DEFINITION. The reserved op codes 0 and 7 (R93). -/

namespace Sys2Proof.Machine

/-- `op` = 0: `Resp(REFUSED, 0xFF)` and no other event (R93). -/
def execReservedOp0 (s : State) : Result := answerReserved .reservedOp0 s

/-- `op` = 7: `Resp(REFUSED, 0xFF)` and no other event (R93). -/
def execReservedOp7 (s : State) : Result := answerReserved .reservedOp7 s

end Sys2Proof.Machine
end

