-- ==== Sys2Proof/Machine/Init.lean ====
section
/-! DEFINITION. The host operation INIT (42_init.md): the request, the two steps before the first command,
the decision after each transaction, and the last step. Each `after…` is what the pseudocode of R202 does
once the `Toggle(1)` of that step's transaction has happened. -/

namespace Sys2Proof.Machine

/-- Host operation `INIT` (R202): `blocks` and `ccs` are cleared in the step that accepts the request
(R203); `I1` is next. -/
def execInit (s : State) : Result :=
  accept .init (fun r => { r with op := 1 })
    (fun s => { s with blocks := 0, ccs := false }.goto .i1 .none) s

/-- `I1`: `SetClock(INIT_CLOCK_HZ)` (R204). -/
def stepI1 (s : State) : State := (s.setClock Config.initClockHz).goto .i2 .none

/-- `I2`: `Toggle(POWERON_TOGGLE_BYTES)` (R205). -/
def stepI2 (s : State) : State := (s.toggle Config.powerOnToggleBytes).goto .i3 .t1

/-- `I10`: `SetClock(OP_CLOCK_HZ)` and the READY response (R216). -/
def stepI10 (s : State) : State := (s.setClock Config.opClockHz).respond .ok Config.statusOk

/-- After CMD0 (R206). -/
def afterI3 (s : State) : State :=
  if s.r1 ≠ 0x01 then s.respond .errR1 s.r1 else s.callWithResult .i4

/-- After CMD8 (R207, R208). -/
def afterI4 (s : State) : State :=
  if s.r1 = 0x05 then { s with v2 := false }.callWithResult .i5
  else if s.r1 = 0x01 ∧ echoByte s.resp = echoPattern then { s with v2 := true }.callWithResult .i5
  else if s.r1 = 0x01 then s.respond .errFraming Config.statusNoResponse
  else s.respond .errR1 s.r1

/-- The head of the operating-condition loop: the bound is tested before each pass (R202, R213). -/
def loopHead (s : State) : State :=
  if iterExhausted s.iter then s.respond .errOpcondTimeout s.r1 else s.goto .i6a .t1

/-- After the first CMD58 (R210, R211). -/
def afterI5 (s : State) : State :=
  if 0x01 < s.r1 then s.respond .errR1 s.r1
  else
    let s := { s with ocr := ocrOf s.resp }
    if Config.vddAcceptable s.ocr then loopHead { s with iter := 0 }
    else s.respond .errVoltage Config.statusNoResponse

/-- After CMD55: its R1 is ignored (R215). -/
def afterI6a (s : State) : State := s.goto .i6b .t1

/-- After ACMD41: the loop ends only at R1 = 0x00 (R213); then the V1 branch is complete and the V2 branch
goes on (R209, R217). -/
def afterI6b (s : State) : State :=
  let s := { s with iter := s.iter + 1 }
  if s.r1 = 0x00 then (if s.v2 then s.callWithResult .i7 else s.goto .i10 .none) else loopHead s

/-- After the second CMD58 (R219, R220). -/
def afterI7 (s : State) : State :=
  if s.r1 ≠ 0x00 then s.respond .errR1 s.r1
  else
    let s := { s with ocr := ocrOf s.resp }
    if ocrPowerUp s.ocr then { s with ccsNew := ocrCcs s.ocr }.callWithResult .i8
    else s.respond .errFraming Config.statusNoResponse

/-- After the first CMD9: wholly discarded (R221). -/
def afterI8 (s : State) : State := s.callWithResult .i9

/-- After the second CMD9: R1, token and CRC are checked in this order (R222, R223); then `blocks` and
`ccs` are committed together (R224, R226). -/
def afterI9 (s : State) : State :=
  if s.r1 ≠ 0x00 then s.respond .errR1 s.r1
  else if s.tokenMissing then s.respond .errFraming Config.statusNoResponse
  else
    let s := { s with acc16 := csdCrc s.resp }
    if s.acc16 ≠ csdRxCrc s.resp then s.respond .errCrc Config.statusNoResponse
    else { s with blocks := blockCount (cSize s.resp), ccs := s.ccsNew }.goto .i10 .none

/-- Which of the document's conceptual states a phase of INIT belongs to (R201). -/
def State.initStage (s : State) : Option InitStage :=
  match s.phase.major with
  | .i1 => some .cardReset
  | .i2 => some .cardReset
  | .i3 => some .cardReset
  | .i4 => some .voltageCheck
  | .i5 => some (if s.v2 then .v2Branch else .v1Branch)
  | .i6a => some (if s.v2 then .v2Branch else .v1Branch)
  | .i6b => some (if s.v2 then .v2Branch else .v1Branch)
  | .i7 => some .v2Branch
  | .i8 => some .v2Branch
  | .i9 => some .v2Branch
  | .i10 => some (if s.v2 then .v2Branch else .v1Branch)
  | _ => none

end Sys2Proof.Machine
end

