-- ==== Sys2Proof/Machine/Read.lean ====
section
/-! DEFINITION. The host operation READ (43_block_read.md): the request with its range check, the steps
`B2` to `B7`, and what follows the transaction. -/

namespace Sys2Proof.Machine

/-- Host operation `READ start, count, buf` (R241): the range check is made in the step that accepts the
request and raises no event (R242); then `B1` sends the read command. -/
def execRead (start count : Word) (buf : Handle) (s : State) : Result :=
  accept (.read start count buf) (fun r => { r with op := 2, start := start, count := count, buf := buf })
    (fun s =>
      if outOfRange start count s.blocks then s.respond .errRange Config.statusRange
      else s.goto .b1 .t1) s

/-- After the R1 of the read command: any R1 but 0x00 goes to the abort path (R246); else the block loop
begins (R247). -/
def afterB1 (s : State) : State :=
  if s.r1 ≠ 0x00 then s.goto .b9 .t9 else { s with blkI := 0 }.goto .b2 .none

/-- `B2`: `t0 <- Tick()` (R248). -/
def stepB2 (s : State) : State := { s.readTick with t0 := s.nextTick }.goto .b3 .none

/-- `B3`: one byte of the token wait into `tok` (R248). A byte that is the token is the instruction
DATA_START_TOKEN; any other means "not yet" and the tick is read next (R109). -/
def stepB3 (s : State) : State :=
  rxBytes 1 (fun bs s => { s with tok := bs.headD 0 }) (fun s => s.goto .b4 .none) s

/-- `B4`: `now <- Tick()`; the wait goes on while less than 100 ms have passed (R248), and ends in the
abort path when the time is up and the last byte was no token (R250). -/
def stepB4 (s : State) : State :=
  let s' := { s.readTick with now := s.nextTick }
  if timedOut s'.t0 s'.now then
    (if s'.tok ≠ dataStartByte then s'.goto .b9 .t9 else s'.goto .b5 .none)
  else s'.goto .b3 .none

/-- `B5`: the 512 payload bytes; then `acc16 <- 0` (R251). -/
def stepB5 (s : State) : State :=
  rxBytes Config.blockLen (fun bs s => { s with pay := storeFrom s.pay 0 bs })
    (fun s => { s with acc16 := 0, j := 0 }.goto .b6 .none) s

/-- `B6`: one `MemWrite(BUF + 512*blk_i + j, 1, pay[j])` and the CRC-16 step; after byte 511 `B7` is next
(R251). -/
def stepB6 (s : State) : State :=
  let v := s.pay[s.j.toNat]
  let s' := { s.memWrite s.off v with acc16 := acc16Step s.acc16 v, j := s.j + 1 }
  if s.j = 511 then s'.goto .b7 .none else s'

/-- After the two CRC bytes: a mismatch goes to the abort path (R253); else the next block, or CMD12 for
a multi-block read (R255), or the end (R247). -/
def afterB7 (s : State) : State :=
  if !payloadCrcOk s.acc16 s.rxCrc then s.goto .b9 .t9
  else if s.blkI.toNat + 1 < s.ops.count.toNat then { s with blkI := s.blkI + 1 }.goto .b2 .none
  else if 1 < s.ops.count.toNat then s.goto .b8 .t1
  else s.goto .b9 .t9

/-- `B7`: the two CRC-16 bytes, `rx_crc <- be16(c[0], c[1])` (R252). -/
def stepB7 (s : State) : State :=
  rxBytes 2 (fun bs s => { s with rxCrc := be16 (bs.getD 0 0) (bs.getD 1 0) }) afterB7 s

/-- What READ returns once its transaction has ended: the first failing check in the order of R276 and
R258. At `B9` the registers say which path led there: an R1 other than 0x00 of the read command or of
CMD12 (R246, R255), a token wait whose last byte was no token (R250), a CRC mismatch (R253), or success
(R256); log 21. -/
def readResult (s : State) : Kind × Byte :=
  if s.r1 ≠ 0x00 then (.errR1, s.r1)
  else if s.tok ≠ dataStartByte then (.errTokenTimeout, s.tok)
  else if !payloadCrcOk s.acc16 s.rxCrc then (.errCrc, Config.statusCrcFail)
  else (.ok, Config.statusOk)

/-- After `B9`'s `Toggle(1)`: the response, on the abort path and on success (R256, R257). -/
def afterB9 (s : State) : State := s.respond (readResult s).1 (readResult s).2

end Sys2Proof.Machine
end

