-- ==== Sys2Proof/Machine/Transaction.lean ====
section
/-! DEFINITION. The transaction layer (41_transaction.md): the host operations CMD and CMDR, which command
each step of an operation sends, the R1 poll, the register-token poll, the additional bytes and the end of
a transaction, and the meaning of the data start token. -/

namespace Sys2Proof.Machine

/-- Host operation `CMD idx, arg` (R168). -/
def execCmd (idx : BitVec 6) (arg : Word) (s : State) : Result :=
  accept (.cmd idx arg) (fun r => { r with op := 3, idx := idx, arg := arg }) (fun s => s.goto .x1 .t1) s

/-- Host operation `CMDR idx, arg, size` (R169); a `size` of 20 to 31 is answered at once (R94). -/
def execCmdr (idx : BitVec 6) (arg : Word) (size : BitVec 5) (s : State) : Result :=
  accept (.cmdr idx arg size) (fun r => { r with op := 4, idx := idx, arg := arg, size := size })
    (fun s =>
      if 19 < size then s.respond .refused Config.statusNoResponse else s.callWithResult .x2) s

/-- The command of the step `major` (R36): its index, its argument, and the `size` that
`SendCommandWithResult` gets; `none` for the size where the step uses `SendCommand`. -/
def State.command (s : State) : Option (BitVec 6 × Word × Option Nat) :=
  match s.phase.major with
  | .x1 => some (s.ops.idx, s.ops.arg, none)
  | .x2 => some (s.ops.idx, s.ops.arg, some s.ops.size.toNat)
  | .i3 => some (0, 0, none)
  | .i4 => some (8, Config.cmd8Arg, some 5)
  | .i5 => some (58, 0, some 5)
  | .i6a => some (55, 0, none)
  | .i6b => some (41, Config.acmd41Arg, none)
  | .i7 => some (58, 0, some 5)
  | .i8 => some (9, 0, some 19)
  | .i9 => some (9, 0, some 19)
  | .b1 => some (if s.ops.count = 1 then 17 else 18, s.ops.start, none)
  | .b8 => some (12, 0, none)
  | .idle | .k7 | .k16 | .i1 | .i2 | .i10 | .b2 | .b3 | .b4 | .b5 | .b6 | .b7 | .b9 => none

/-- What follows a finished R1 poll. READ's commands leave the transaction open (R162): `B1` goes on to
the data phase and `B8` to `B9`. `SendCommandWithResult` reads more when `size` > 1, for CMD9 and CMD10
after a token search (R164); its line `token_missing <- false` stands here as in the pseudocode, the flag
being clear since the call began (R47, log 23). Everything else ends the transaction. -/
def afterPoll (idx : BitVec 6) (size : Option Nat) (s : State) : State :=
  match s.phase.major, size with
  | .b1, _ => afterB1 s
  | .b8, _ => s.goto .b9 .t9
  | m, none => s.goto m .t9
  | m, some n =>
    let s := { s with tokenMissing := false }
    if 1 < n then
      (if tokenWrapped idx then { s with attempt := 0 }.goto m .t3 else s.goto m .t4)
    else s.goto m .t9

/-- `T2`: one read of the R1 poll (R162, R163). -/
def stepT2 (idx : BitVec 6) (size : Option Nat) (s : State) : State :=
  rxBytes 1 (fun bs s => { s with r1 := bs.headD 0 })
    (fun s =>
      let s := { s with attempt := s.attempt + 1 }
      if pollEnds s.r1 s.attempt then afterPoll idx size s else s) s

/-- `T3`: one read of the register-token poll whose byte is not the token; after 8 of them the token is
missing and nothing more is read (R164, R165). -/
def stepT3 (s : State) : State :=
  rxBytes 1 (fun bs s => { s with tok := bs.headD 0 })
    (fun s =>
      let s := { s with attempt := s.attempt + 1 }
      if s.attempt = Config.tokenAttempts then { s with tokenMissing := true }.goto s.phase.major .t9
      else s) s

/-- `T4`: the additional bytes, one `ReadContinue(size - 1)` into `resp[0..size-2]` (R164, R33). -/
def stepT4 (n : Nat) (s : State) : State :=
  rxBytes (n - 1) (fun bs s => { s with resp := storeFrom s.resp 0 bs })
    (fun s => s.goto s.phase.major .t9) s

/-- The end of CMD (R168). -/
def afterX1 (s : State) : State :=
  if r1Busy s.r1 then s.respond .errNoResponse s.r1 else s.respond .ok s.r1

/-- The end of CMDR (R169): a missing token wins over a missing R1. -/
def afterX2 (s : State) : State :=
  if s.tokenMissing then s.respond .errFraming Config.statusNoResponse
  else if r1Busy s.r1 then s.respond .errNoResponse s.r1
  else s.respond .ok s.r1

/-- What a step of an operation does once its transaction has ended. -/
def afterTransaction (s : State) : Result :=
  match s.phase.major with
  | .x1 => .next (afterX1 s)
  | .x2 => .next (afterX2 s)
  | .i3 => .next (afterI3 s)
  | .i4 => .next (afterI4 s)
  | .i5 => .next (afterI5 s)
  | .i6a => .next (afterI6a s)
  | .i6b => .next (afterI6b s)
  | .i7 => .next (afterI7 s)
  | .i8 => .next (afterI8 s)
  | .i9 => .next (afterI9 s)
  | .b9 => .next (afterB9 s)
  | .idle | .k7 | .k16 | .i1 | .i2 | .i10 | .b1 | .b2 | .b3 | .b4 | .b5 | .b6 | .b7 | .b8 =>
    .fault .strayPhase

/-- `T9`, `EndTransaction()`: `Toggle(END_TOGGLE_BYTES)`, chip-select released (R166). -/
def stepT9 (s : State) : Result := afterTransaction (s.toggle Config.endToggleBytes)

/-- The phase is a token wait: `B3` of READ, or `T3` of a step that sends CMD9 or CMD10 through
`SendCommandWithResult`. -/
def Phase.awaitsToken (p : Phase) : Bool :=
  p == ⟨.b3, .none⟩ ||
  (p.minor == .t3 && (p.major == .x2 || p.major == .i8 || p.major == .i9))

/-- The data start token is received: the block is in a token wait and the byte read stands in `tok`, its
`ReleaseMosi` pending. -/
def State.tokenPending (s : State) : Bool :=
  s.busy && s.phase.awaitsToken && s.rxStage == .release

/-- DATA_START_TOKEN (R109): the byte 0xFE ends the wait with success at once. READ goes on to the payload
without another tick read (R248); a register read goes on to its additional bytes, the read counted in
`attempt` (R164). Elsewhere 0xFE is no token (log 22). -/
def execDataStartToken (s : State) : Result :=
  if s.tokenPending then
    let s := { s.releaseMosi with rxStage := .hold }
    if s.phase.major = .b3 then .next (s.goto .b5 .none)
    else .next ({ s with attempt := s.attempt + 1 }.goto s.phase.major .t4)
  else .refused .tokenOutsideWait

end Sys2Proof.Machine
end

