-- ==== Sys2Proof/Machine/Dispatch.lean ====
section
/-! DEFINITION. One arm for every constructor of Instr. -/

namespace Sys2Proof.Machine

def exec (i : Instr) (s : State) : Host.Outcome State Fault Refusal :=
  match i with
  | .init => Sys2Proof.Machine.execInit s
  | .read start count buf => Sys2Proof.Machine.execRead start count buf s
  | .cmd idx arg => Sys2Proof.Machine.execCmd idx arg s
  | .cmdr idx arg size => Sys2Proof.Machine.execCmdr idx arg size s
  | .crc7 src len resIn => Sys2Proof.Machine.execCrc7 src len resIn s
  | .crc16 src len resIn => Sys2Proof.Machine.execCrc16 src len resIn s
  | .reservedOp0 => Sys2Proof.Machine.execReservedOp0 s
  | .reservedOp7 => Sys2Proof.Machine.execReservedOp7 s
  | .cmd0 => Sys2Proof.Machine.execCmd0 s
  | .cmd8 => Sys2Proof.Machine.execCmd8 s
  | .cmd9 => Sys2Proof.Machine.execCmd9 s
  | .cmd10 => Sys2Proof.Machine.execCmd10 s
  | .cmd12 => Sys2Proof.Machine.execCmd12 s
  | .cmd17 start crc => Sys2Proof.Machine.execCmd17 start crc s
  | .cmd18 start crc => Sys2Proof.Machine.execCmd18 start crc s
  | .cmd55 => Sys2Proof.Machine.execCmd55 s
  | .acmd41 => Sys2Proof.Machine.execAcmd41 s
  | .cmd58 => Sys2Proof.Machine.execCmd58 s
  | .cmdn idx arg crc => Sys2Proof.Machine.execCmdn idx arg crc s
  | .dataStartToken => Sys2Proof.Machine.execDataStartToken s

end Sys2Proof.Machine
end

