-- ==== Sys2Proof/Machine/Sequencer.lean ====
section
/-! DEFINITION. The sequencer: what the machine fetches, and the steps between two fetched instructions.
The block has no instruction memory (R35): what stands in its place is the host's next request while the
block is at rest, the command frame of the current step at a label `T1`, and the token byte received in a
token wait (log 13). -/

namespace Sys2Proof.Machine

/-- The bytes of the instruction the machine fetches, if it fetches one. -/
def fetch (s : State) : Option (List Byte) :=
  if s.busy then
    if s.tokenPending && s.tok == dataStartByte then some [s.tok]
    else if s.phase.minor = .t1 then s.command.map (fun c => frame c.1 c.2.1)
    else none
  else s.requests.head?.map Request.toBytes

/-- The state in which a fetched instruction is executed: a request has left the host's queue. -/
def State.consume (s : State) : State :=
  if s.busy then s else { s with requests := s.requests.tail }

/-- A step at a label inside a transaction (41_transaction.md). `T1` is fetched, so it is stray here. -/
def advanceTransaction (idx : BitVec 6) (size : Option Nat) (s : State) : Result :=
  match s.phase.minor, size with
  | .t2, _ => .next (stepT2 idx size s)
  | .t3, _ => if s.phase.awaitsToken then .next (stepT3 s) else .fault .strayPhase
  | .t4, some n => .next (stepT4 n s)
  | .t9, _ => stepT9 s
  | .t4, none => .fault .strayPhase
  | .t1, _ => .fault .strayPhase
  | .none, _ => .fault .strayPhase

/-- A step at a label outside the transaction procedures. -/
def advancePlain (s : State) : Result :=
  match s.phase.major with
  | .k7 => .next (stepK7 s)
  | .k16 => .next (stepK16 s)
  | .i1 => .next (stepI1 s)
  | .i2 => .next (stepI2 s)
  | .i10 => .next (stepI10 s)
  | .b2 => .next (stepB2 s)
  | .b3 => .next (stepB3 s)
  | .b4 => .next (stepB4 s)
  | .b5 => .next (stepB5 s)
  | .b6 => .next (stepB6 s)
  | .b7 => .next (stepB7 s)
  | .idle | .x1 | .x2 | .i3 | .i4 | .i5 | .i6a | .i6b | .i7 | .i8 | .i9 | .b1 | .b8 | .b9 =>
    .fault .strayPhase

/-- A step that runs no fetched instruction: the block at rest waits (R53); else the event of the label in
`phase` happens (R35, R37). -/
def advance (s : State) : Result :=
  if s.busy then
    match s.phase.minor, s.command with
    | .none, _ => advancePlain s
    | _, some c => advanceTransaction c.1 c.2.2 s
    | .t9, none => stepT9 s
    | _, none => .fault .strayPhase
  else .next s

end Sys2Proof.Machine
end

