-- ==== Sys2Proof/Machine/Step.lean ====
section
/-! DEFINITION. One step of the machine: one event of R12, with the request and the response falling into
the step of the event beside them (log 14). -/

namespace Sys2Proof.Machine

/-- One step: run the fetched instruction, or the sequencer's own step. -/
def step (s : State) : Host.Outcome State Fault Refusal :=
  match fetch s with
  | some bytes =>
    match decode bytes with
    | .ok (i, _) => exec i s.consume
    | .error e => .refused (.undecodable e)
  | none => advance s

/-- `n` steps, stopping at the first that answers no next state. -/
def run : Nat → State → Host.Outcome State Fault Refusal
  | 0, s => .next s
  | n + 1, s =>
    match step s with
    | .next s' => run n s'
    | .fault f => .fault f
    | .refused r => .refused r

/-- `s` with the instruction of a table word placed where `step` fetches next (log 26): a request at the
head of the host's queue with the block at rest; a frame as the command of a CMD operation at `T1`; the
token as the byte just read in READ's token wait. Words that decode to nothing leave `s` as it is. -/
def State.withFetchWord (s : State) (nbits w : Nat) : State :=
  let b0 : Byte := (tableBytes nbits w).headD 0
  if b0 = dataStartByte then
    { s with busy := true, phase := ⟨.b3, .none⟩, rxStage := .release, tok := dataStartByte }
  else if b0.extractLsb' 3 5 = 0 then
    { s with busy := false, phase := Phase.rest, requests := [Request.blank (b0.setWidth 3)] }
  else if b0.extractLsb' 6 2 = 1 then
    { s with busy := true, phase := ⟨.x1, .t1⟩,
             ops := { s.ops with op := 3, idx := BitVec.ofNat 6 (w >>> 40), arg := BitVec.ofNat 32 (w >>> 8) } }
  else s

end Sys2Proof.Machine
end

