-- ==== Sys2Proof/Safety.lean ====
section
/-! DEFINITION. The vocabulary of the claims: which phases there are and what holds in them, the invariants
of a run, and what the event history says about the bus. -/

namespace Sys2Proof.Machine

/-- The minors that go with a major (R36 and the pseudocode of R161 to R166, R202, R241). -/
def Major.minors : Major → List Minor
  | .idle | .k7 | .k16 | .i1 | .i2 | .i10 | .b2 | .b3 | .b4 | .b5 | .b6 | .b7 => [.none]
  | .x1 | .i3 | .i6a | .i6b => [.t1, .t2, .t9]
  | .i4 | .i5 | .i7 => [.t1, .t2, .t4, .t9]
  | .x2 | .i8 | .i9 => [.t1, .t2, .t3, .t4, .t9]
  | .b1 | .b8 => [.t1, .t2]
  | .b9 => [.t9]

/-- The op code of the operation a major belongs to (R36, R25); 0 at rest. -/
def Major.op : Major → BitVec 3
  | .idle => 0
  | .k7 => 5
  | .k16 => 6
  | .x1 => 3
  | .x2 => 4
  | .i1 | .i2 | .i3 | .i4 | .i5 | .i6a | .i6b | .i7 | .i8 | .i9 | .i10 => 1
  | .b1 | .b2 | .b3 | .b4 | .b5 | .b6 | .b7 | .b8 | .b9 => 2

/-- The event of the label is an `RxBytes`. -/
def Phase.reads (p : Phase) : Bool :=
  p.minor == .t2 || p.minor == .t3 || p.minor == .t4 ||
    p.major == .b3 || p.major == .b5 || p.major == .b7

/-- A transaction is open at the label: a frame was sent and its `Toggle(1)` is still to come. -/
def Phase.inTransaction (p : Phase) : Bool :=
  p.minor == .t2 || p.minor == .t3 || p.minor == .t4 || p.minor == .t9 ||
    p.major == .b2 || p.major == .b3 || p.major == .b4 || p.major == .b5 || p.major == .b6 ||
    p.major == .b7 || p.major == .b8

/-- The steps of READ between its first R1 and its end, in which a block is being received. -/
def Major.inBlock : Major → Bool
  | .b2 | .b3 | .b4 | .b5 | .b6 | .b7 => true
  | _ => false

/-- The steps of INIT before `blocks` and `ccs` are committed (R226). -/
def Major.beforeCommit : Major → Bool
  | .i1 | .i2 | .i3 | .i4 | .i5 | .i6a | .i6b | .i7 | .i8 | .i9 => true
  | _ => false

/-- The steps of INIT that run at the identification clock (R313). -/
def Major.slowClock : Major → Bool
  | .i2 | .i3 | .i4 | .i5 | .i6a | .i6b | .i7 | .i8 | .i9 | .i10 => true
  | _ => false

/-- The steps that run `SendCommandWithResult` (R36, R169, R202). -/
def Major.withResult : Major → Bool
  | .x2 | .i4 | .i5 | .i7 | .i8 | .i9 => true
  | _ => false

/-- The rest invariant (R54). -/
def RestInv (s : State) : Prop :=
  s.busy = false → s.phase = Phase.rest ∧ s.cs = .deasserted ∧ s.mosiHold = .released

/-- The control invariant: where the sequencer can stand and what its counters and shadows are there. -/
structure ControlInv (s : State) : Prop where
  /-- R54, with no read half done. -/
  rest : s.busy = false →
    s.phase = Phase.rest ∧ s.cs = .deasserted ∧ s.mosiHold = .released ∧ s.rxStage = .hold
  /-- R36: while an operation runs the phase pair is one of the spec's. -/
  running : s.busy = true → s.phase.major ≠ .idle ∧ s.phase.minor ∈ s.phase.major.minors
  /-- R36: the major belongs to the operation in `op`. -/
  operation : s.busy = true → s.ops.op = s.phase.major.op
  /-- R39: chip-select is asserted exactly inside a transaction. -/
  chipSelect : s.busy = true → s.cs = if s.phase.inTransaction then .asserted else .deasserted
  /-- R17, R40: the data-out line is held at 1 exactly between `HoldMosi(1)` and `ReleaseMosi()`. -/
  dataOut : s.mosiHold = if s.rxStage = .hold then .released else .held1
  /-- R17: a read is half done only at a label that reads. -/
  reading : s.rxStage ≠ .hold → s.phase.reads = true
  /-- R163, R165: fewer than 8 reads have been made while a poll goes on. -/
  polls : s.phase.minor = .t2 ∨ s.phase.minor = .t3 → s.attempt < 8
  /-- R94: a running CMDR has a legal size. -/
  cmdrSize : s.phase.major = .x2 → s.ops.size ≤ 19
  /-- R164: additional bytes and a token search only when `size` > 1. -/
  additional : s.phase.major = .x2 → s.phase.minor = .t3 ∨ s.phase.minor = .t4 → 1 < s.ops.size
  /-- R165: a token search only for CMD9 and CMD10. -/
  search : s.phase.major = .x2 → s.phase.minor = .t3 → tokenWrapped s.ops.idx = true
  /-- R47: `token_missing` is clear from the start of a `SendCommandWithResult` until its end. -/
  flagClear : s.phase.major.withResult = true → s.phase.minor ≠ .t9 → s.tokenMissing = false
  /-- R137, R147: the source index is below `len`. -/
  sourceIndex : s.phase.major = .k7 ∨ s.phase.major = .k16 → s.k < s.ops.len
  /-- R242: a READ that runs passed its range check. -/
  range : s.phase.major.op = 2 → outOfRange s.ops.start s.ops.count s.blocks = false
  /-- R247: the block index is below `count`. -/
  blockIndex : s.phase.major.inBlock = true → s.blkI < s.ops.count
  /-- R255: CMD12 belongs to multi-block reads. -/
  multiBlock : s.phase.major = .b8 → 1 < s.ops.count
  /-- R248: the tick is read again only after a byte that is no token. -/
  notToken : s.phase.major = .b4 → s.tok ≠ dataStartByte
  /-- R213: with a finite bound n, a pass begins only while fewer than n were made. -/
  loopBound : s.phase.major = .i6a ∨ s.phase.major = .i6b →
    ∀ n, Config.acmd41MaxIter = some n → s.iter < n

/-- The session invariant (R21, R22, R226, R313). -/
structure SessionInv (s : State) : Prop where
  /-- R21: the values `blocks` can hold. -/
  unit : s.blocks.toNat % 1024 = 0
  /-- R226: nothing is committed before the last check of INIT. -/
  uncommitted : s.busy = true → s.phase.major.beforeCommit = true → s.blocks = 0 ∧ s.ccs = false
  /-- R313: INIT runs at the identification clock from `I1` on. -/
  clock : s.busy = true → s.phase.major.slowClock = true → s.clkHz = Config.initClockHz
  /-- R48: bit 0 of `acc7` is always 0. -/
  evenAcc7 : s.acc7.getLsbD 0 = false

/-- The block that READ is receiving (R247, R251): what `acc16` and `BUF` hold at `B6` and `B7`. -/
structure BlockInv (s : State) : Prop where
  /-- R251: after `j` bytes `acc16` is the CRC-16 of those bytes. -/
  running : s.busy = true → s.phase.major = .b6 → s.acc16 = crc16 (s.pay.toList.take s.j.toNat) 0
  /-- R251: the bytes before `j` are in `BUF` at their offsets. -/
  written : s.busy = true → s.phase.major = .b6 → ∀ i (h : i < 512), i < s.j.toNat →
    s.mem.read (address s.ops.buf (Config.blockLen * s.blkI.toNat + i)) = s.pay[i]
  /-- R251: at `B7` `acc16` is the CRC-16 of the whole payload. -/
  complete : s.busy = true → s.phase.major = .b7 → s.acc16 = crc16 s.pay.toList 0
  /-- R251: at `B7` the whole payload is in `BUF`. -/
  delivered : s.busy = true → s.phase.major = .b7 → ∀ i (h : i < 512),
    s.mem.read (address s.ops.buf (Config.blockLen * s.blkI.toNat + i)) = s.pay[i]

/-! ### The premise on the tick source -/

/-- The fairness premise of R289, for the token wait that sampled `t0` and makes its next tick reads from
`s` on: one of them shows that `TOKEN_TIMEOUT_MS` have passed. No step assumes it (log 2); a claim that a
wait ends names it. -/
def State.TickLiveness (s : State) (t0 : Word) : Prop :=
  ∃ n, Config.tokenTimeoutMs ≤ elapsed t0 (s.tickAt n)

/-! ### What the history says -/

/-- Chip-select as the events so far left it, newest first (R39, R285). -/
def busCs : List Event → ChipSelect
  | [] => .deasserted
  | .writeContinue _ :: _ => .asserted
  | .readContinue _ :: _ => .asserted
  | .toggle _ :: _ => .deasserted
  | .write _ :: _ => .deasserted
  | .read _ :: _ => .deasserted
  | _ :: h => busCs h

/-- The data-out line's hold as the events so far left it (R40). -/
def busMosi : List Event → MosiHold
  | [] => .released
  | .holdMosi level :: _ => if level then .held1 else .held0
  | .releaseMosi :: _ => .released
  | _ :: h => busMosi h

/-- The clock rate last requested, if any was (R41). -/
def busClock : List Event → Option Nat
  | [] => none
  | .setClock hz :: _ => some hz
  | _ :: h => busClock h

/-- The command frame last sent, if any was. -/
def lastFrame : List Event → Option (List Byte)
  | [] => none
  | .writeContinue bs :: _ => some bs
  | _ :: h => lastFrame h

/-- Six bytes that R98 calls a frame the block can produce: prefix `01`, stop bit 1, and the CRC-7 of the
first five bytes. -/
def isFrame : List Byte → Bool
  | [b0, b1, b2, b3, b4, b5] =>
    b0.extractLsb' 6 2 == 1 && b5.getLsbD 0 && b5.extractLsb' 1 7 == crc7 [b0, b1, b2, b3, b4] 0
  | _ => false

/-- An event of a shape the block emits: frames of R98 only, reads of the lengths of R71, the data-out line
held at 1 only, the two clock rates of R173, the two toggle counts of R174, and neither `Write` nor `Read`
(R167). -/
def Event.emitted : Event → Bool
  | .writeContinue bs => isFrame bs
  | .readContinue bs => (1 ≤ bs.length && bs.length ≤ 18) || bs.length == 512
  | .write _ => false
  | .read _ => false
  | .holdMosi level => level
  | .setClock hz => hz == Config.initClockHz || hz == Config.opClockHz
  | .toggle n => n == Config.powerOnToggleBytes || n == Config.endToggleBytes
  | .request _ => true
  | .response _ _ => true
  | .releaseMosi => true
  | .tick _ => true
  | .memWrite _ _ _ => true
  | .memRead _ _ _ => true

/-- Every frame was sent with chip-select released since the frame before it, but for CMD12 sent while a
CMD18 transaction was open (R311). -/
def framesApart : List Event → Prop
  | [] => True
  | .writeContinue bs :: h =>
    (busCs h = .deasserted ∨ (bs = frame 12 0 ∧ ∃ start, lastFrame h = some (frame 18 start))) ∧
      framesApart h
  | _ :: h => framesApart h

/-- The bus invariant: the shadows agree with the history, and the history keeps the rules of the bus. -/
structure BusInv (s : State) : Prop where
  chipSelect : busCs s.history = s.cs
  dataOut : busMosi s.history = s.mosiHold
  clock : ∀ hz, busClock s.history = some hz → s.clkHz = hz
  shapes : ∀ e ∈ s.history, e.emitted = true
  apart : framesApart s.history
  /-- While READ's transaction is open and before CMD12, the last frame is its read command (R245). -/
  readFrame : s.busy = true →
    (s.phase = ⟨.b1, .t2⟩ ∨ s.phase.major.inBlock = true ∨ s.phase = ⟨.b8, .t1⟩) →
    lastFrame s.history = some (frame (if s.ops.count = 1 then 17 else 18) s.ops.start)

/-! ### Next states written out, for the statements -/

/-- `s` after a frame was sent: its six bytes in one `WriteContinue`, chip-select asserted, the R1 poll
next (R161, R162); nothing else changes. -/
def State.sent (s : State) (bytes : List Byte) : State :=
  { s with cs := .asserted, attempt := 0, phase := { major := s.phase.major, minor := .t2 },
           history := .writeContinue bytes :: s.history }

/-- `s` after the closing `Toggle(1)` of its transaction, with the next label in `phase` (R166); nothing
else changes. -/
def State.closed (s : State) (major : Major) (minor : Minor) : State :=
  { s with cs := .deasserted, phase := { major := major, minor := minor },
           history := .toggle 1 :: s.history }

/-- `s` after the closing `Toggle(1)` of its transaction and the response (R166, R31); nothing else
changes. -/
def State.ended (s : State) (k : Kind) (st : Byte) : State :=
  { s with cs := .deasserted, kind := k, status := st, busy := false, phase := Phase.rest,
           history := .response k st :: .toggle 1 :: s.history }

/-- The events of `RxBytes` that returned these bytes, newest first (R17). -/
def readEvents (bs : List Byte) : List Event := [.releaseMosi, .readContinue bs, .holdMosi true]

/-- The events of a poll that read these bytes one at a time, newest first (R162). -/
def pollEvents (bs : List Byte) : List Event := bs.reverse.flatMap (fun b => readEvents [b])

/-- The events of a CRC operation that read `n` source bytes, newest first (R137, R147). -/
def sourceEvents (src : Handle) (bytes : List Byte) : List Event :=
  (bytes.zipIdx.map (fun x => .memRead src x.2 x.1)).reverse

/-- The `n` bytes of host memory from the handle on, in ascending order (R63). -/
def sourceBytes (m : Memory) (src : Handle) (n : Nat) : List Byte :=
  (List.range n).map (fun k => m.read (address src k))

/-- `s` after the three events of `RxBytes(n)` (R17): the card's next `n` bytes are consumed, chip-select
stands asserted and the data-out line is released again; the register the bytes go to is not yet
written. -/
def State.received (s : State) (n : Nat) : State :=
  { s with card := (drawBytes n s.card s.cardCount).2.1, cardCount := (drawBytes n s.card s.cardCount).2.2,
           cs := .asserted, mosiHold := .released, rxStage := .hold,
           history := readEvents (s.incoming n) ++ s.history }

/-- The first of the card's next bytes. -/
def State.nextByte (s : State) : Byte := (s.incoming 1).headD 0

/-- The event is a response. -/
def Event.isResponse : Event → Bool
  | .response _ _ => true
  | _ => false

/-- Where an event of a step can come from: the state before it and the state after it (R31, R36, R38,
R161, R167, R173 to R175, R248, R251, R288). -/
def Event.comesFrom (s t : State) : Event → Prop
  | .request _ => s.busy = false
  | .response k st => t.busy = false ∧ t.phase = Phase.rest ∧ t.kind = k ∧ t.status = st
  | .writeContinue bs => s.busy = true ∧ s.phase.minor = .t1 ∧
      ∃ idx arg size, s.command = some (idx, arg, size) ∧ bs = frame idx arg
  | .readContinue _ => s.busy = true ∧ s.phase.reads = true ∧ s.rxStage = .read
  | .write _ => False
  | .read _ => False
  | .holdMosi level => s.busy = true ∧ level = true ∧ s.phase.reads = true ∧ s.rxStage = .hold
  | .releaseMosi => s.busy = true ∧ s.phase.reads = true ∧ s.rxStage = .release
  | .setClock hz => s.busy = true ∧
      (s.phase.major = .i1 ∧ hz = Config.initClockHz ∨
        s.phase.major = .i10 ∧ hz = Config.opClockHz ∧ t.busy = false ∧ t.kind = .ok)
  | .toggle n => s.busy = true ∧
      (s.phase.major = .i2 ∧ n = Config.powerOnToggleBytes ∨ s.phase.minor = .t9 ∧ n = Config.endToggleBytes)
  | .tick v => s.busy = true ∧ (s.phase.major = .b2 ∧ t.t0 = v ∨ s.phase.major = .b4 ∧ t.now = v)
  | .memWrite h off v => s.busy = true ∧ s.phase.major = .b6 ∧ h = s.ops.buf ∧
      off = 512 * s.blkI.toNat + s.j.toNat ∧ v = s.pay[s.j.toNat]
  | .memRead h off v => s.busy = true ∧ (s.phase.major = .k7 ∨ s.phase.major = .k16) ∧ h = s.ops.src ∧
      off = s.k.toNat ∧ v = s.mem.read (address h off)

/-- The register file `resp` after additional bytes were received (R33). -/
def State.respHolds (t s : State) (bs : List Byte) : Prop :=
  ∀ i (h : i < 18), t.resp[i] = if i < bs.length then bs.getD i 0 else s.resp[i]

/-- The session, the clock and host memory are as they were. -/
def State.sameSession (t s : State) : Prop :=
  t.blocks = s.blocks ∧ t.ccs = s.ccs ∧ t.clkHz = s.clkHz ∧ t.mem = s.mem

/-- The block is at rest with this answer (R31). -/
def State.answered (t : State) (k : Kind) (st : Byte) : Prop :=
  t.busy = false ∧ t.phase = Phase.rest ∧ t.kind = k ∧ t.status = st

/-- The bus is released (R54). -/
def State.busReleased (t : State) : Prop :=
  t.cs = .deasserted ∧ t.mosiHold = .released ∧ t.rxStage = .hold

end Sys2Proof.Machine
end

