-- ==== Sys2Proof/Certificates/Slice0/Obligations.lean ====
section
/-! DEFINITION. The statements about the model, one `Obligations.<Name>` each, in the order of
OBLIGATIONS.json. Statements quantify over every state unless they name what they ask of it. -/

open Sys2Proof Sys2Proof.Machine

/-! ### Encodings -/

/-- O1 (R92, R100, R109). Words written out from the spec's tables decode to their instructions. The byte
layout of the request is the model's (log 11). -/
def Obligations.TableWordsDecode : Prop :=
  decode [0x40, 0x00, 0x00, 0x00, 0x00, 0x95] = .ok (.cmd0, []) ∧
  decode [0x48, 0x00, 0x00, 0x01, 0xAA, 0x87] = .ok (.cmd8, []) ∧
  decode [0x4A, 0x00, 0x00, 0x00, 0x00, 0x1B] = .ok (.cmd10, []) ∧
  decode [0x51, 0x12, 0x34, 0x56, 0x78, 0x5D] = .ok (.cmd17 0x12345678 0x2E, []) ∧
  decode [0x52, 0x00, 0x00, 0x00, 0x02, 0xC5] = .ok (.cmd18 2 0x62, []) ∧
  decode [0x69, 0x40, 0x00, 0x00, 0x00, 0x77] = .ok (.acmd41, []) ∧
  decode [0x7F, 0xFF, 0xFF, 0xFF, 0xFF, 0x19] = .ok (.cmdn 63 0xFFFFFFFF 0x0C, []) ∧
  decode [0xFE] = .ok (.dataStartToken, []) ∧
  decode ([0x02, 0, 0, 0, 0, 0, 0] ++ [0, 0, 0, 5] ++ [0, 0, 0, 2] ++ [0, 0, 0, 0, 0, 0, 0x10, 0] ++
    List.replicate 12 0) = .ok (.read 5 2 0x1000, [])

/-- O2 (R92, R95, R98, R109). Decoding an encoded well-formed instruction gives it back, whatever bytes
follow it. -/
def Obligations.DecodeEncodeAgree : Prop :=
  ∀ (i : Instr) (rest : List Byte), i.wellFormed = true → decode (encode i ++ rest) = .ok (i, rest)

/-- O3 (R98). Six bytes that are a frame decode to a well-formed instruction, and its encoding is those six
bytes. -/
def Obligations.EncodeDecodeFrames : Prop :=
  ∀ bytes : List Byte, isFrame bytes = true →
    ∃ i, decode bytes = .ok (i, []) ∧ i.wellFormed = true ∧ encode i = bytes

/-- O4 (R98). Six bytes are a frame exactly when they are `Frame(idx, arg)` for some index and argument,
and the two are read back from them. -/
def Obligations.ProducibleFrames : Prop :=
  (∀ bytes : List Byte, isFrame bytes = true ↔ ∃ idx arg, bytes = frame idx arg) ∧
  (∀ idx arg, ∃ b0 b1 b2 b3 b4 b5, frame idx arg = [b0, b1, b2, b3, b4, b5] ∧
    b0.setWidth 6 = idx ∧ be32 b1 b2 b3 b4 = arg)

/-- O5 (R95). The 48-bit word of a frame, bit 47 first: start bit 0, transmission bit 1, the index, the
argument, the CRC-7 of the first five bytes with residual 0, stop bit 1. -/
def Obligations.FrameFieldsOnTheWire : Prop :=
  ∀ (idx : BitVec 6) (arg : Word) (b0 b1 b2 b3 b4 b5 : Byte),
    frame idx arg = [b0, b1, b2, b3, b4, b5] →
    let F : BitVec 48 := b0 ++ b1 ++ b2 ++ b3 ++ b4 ++ b5
    F.getLsbD 47 = false ∧ F.getLsbD 46 = true ∧ F.extractLsb' 40 6 = idx ∧ F.extractLsb' 8 32 = arg ∧
      F.extractLsb' 1 7 = crc7 [b0, b1, b2, b3, b4] 0 ∧ F.getLsbD 0 = true

/-! ### The checksum units -/

/-- O6 (R133). The accumulator form of the CRC-7 unit computes `Crc7`, and bit 0 of the accumulator is
0. -/
def Obligations.Crc7TableForm : Prop :=
  ∀ (buf : List Byte) (r : BitVec 7),
    acc7Result (buf.foldl acc7Step (acc7Init r)) = crc7 buf r ∧
      (buf.foldl acc7Step (acc7Init r)).getLsbD 0 = false

/-- O7 (R143). The table form of the CRC-16 unit computes `Crc16`. -/
def Obligations.Crc16TableForm : Prop :=
  ∀ (buf : List Byte) (r : Half), buf.foldl acc16Step r = crc16 buf r

/-- O8 (R132). Empty buffer, chaining, linearity for equal lengths, zero bytes, and one differing bit. -/
def Obligations.Crc7Algebra : Prop :=
  (∀ r, crc7 [] r = r) ∧
  (∀ a b r, crc7 (a ++ b) r = crc7 b (crc7 a r)) ∧
  (∀ (a b : List Byte) r s, a.length = b.length →
    crc7 (List.zipWith (· ^^^ ·) a b) (r ^^^ s) = crc7 a r ^^^ crc7 b s) ∧
  (∀ n, crc7 (List.replicate n 0) 0 = 0) ∧
  (∀ (pre post : List Byte) (b : Byte) (i : Nat) r, i < 8 →
    crc7 (pre ++ b :: post) r ≠ crc7 (pre ++ (b ^^^ BitVec.twoPow 8 i) :: post) r)

/-- O9 (R142). The same laws of the CRC-16, and the residue law. -/
def Obligations.Crc16Algebra : Prop :=
  (∀ r, crc16 [] r = r) ∧
  (∀ a b r, crc16 (a ++ b) r = crc16 b (crc16 a r)) ∧
  (∀ (a b : List Byte) r s, a.length = b.length →
    crc16 (List.zipWith (· ^^^ ·) a b) (r ^^^ s) = crc16 a r ^^^ crc16 b s) ∧
  (∀ n, crc16 (List.replicate n 0) 0 = 0) ∧
  (∀ (pre post : List Byte) (b : Byte) (i : Nat) r, i < 8 →
    crc16 (pre ++ b :: post) r ≠ crc16 (pre ++ (b ^^^ BitVec.twoPow 8 i) :: post) r) ∧
  (∀ (buf : List Byte) r,
    crc16 (buf ++ [(crc16 buf r).extractLsb' 8 8, (crc16 buf r).extractLsb' 0 8]) r = 0)

/-! ### Requests -/

/-- O10 (R202, R203, R24). INIT on a block at rest: the request is taken, `blocks` and `ccs` are cleared in
the same step, `I1` is next. What the unused operand registers hold is unspecified (log 8). -/
def Obligations.InitRequest : Prop :=
  ∀ s : State, s.busy = false → ∃ o : Request, o.op = 1 ∧
    exec .init s = .next { s with
      busy := true, ops := o, freeCount := s.freeCount + 1, blocks := 0, ccs := false,
      phase := { major := .i1, minor := .none }, history := .request .init :: s.history }

/-- O11 (R8, R24, R241, R242). READ on a block at rest: out of range it is answered at once with `ERR_RANGE`
and a status that is neither 0x00 nor 0xFF, with no event but request and response; in range CMD17 or CMD18
is next. What the unused operand registers hold is unspecified (log 8), and the status is an open parameter
(log 9). -/
def Obligations.ReadRequest : Prop :=
  ∀ (s : State) (start count : Word) (buf : Handle), s.busy = false → ∃ o : Request,
    o.op = 2 ∧ o.start = start ∧ o.count = count ∧ o.buf = buf ∧
    (if count.toNat = 0 ∨ s.blocks.toNat < start.toNat + count.toNat - 1 then
      exec (.read start count buf) s = .next { s with
        ops := o, freeCount := s.freeCount + 1, kind := .errRange, status := Config.statusRange,
        busy := false, phase := Phase.rest,
        history := .response .errRange Config.statusRange :: .request (.read start count buf) :: s.history } ∧
      Config.statusRange ≠ 0x00 ∧ Config.statusRange ≠ 0xFF
    else
      exec (.read start count buf) s = .next { s with
        busy := true, ops := o, freeCount := s.freeCount + 1,
        phase := { major := .b1, minor := .t1 },
        history := .request (.read start count buf) :: s.history })

/-- O12 (R168). CMD on a block at rest: the request is taken and its frame is next. -/
def Obligations.CmdRequest : Prop :=
  ∀ (s : State) (idx : BitVec 6) (arg : Word), s.busy = false → ∃ o : Request,
    o.op = 3 ∧ o.idx = idx ∧ o.arg = arg ∧
    exec (.cmd idx arg) s = .next { s with
      busy := true, ops := o, freeCount := s.freeCount + 1,
      phase := { major := .x1, minor := .t1 }, history := .request (.cmd idx arg) :: s.history }

/-- O13 (R47, R94, R169). CMDR on a block at rest: with a size of 0 to 19 its frame is next and
`token_missing` is cleared (log 23), with a larger one it is answered `Resp(REFUSED, 0xFF)` at once. That
the operand registers are loaded in the refused case too is the model's reading (log 20). -/
def Obligations.CmdrRequest : Prop :=
  ∀ (s : State) (idx : BitVec 6) (arg : Word) (size : BitVec 5), s.busy = false → ∃ o : Request,
    o.op = 4 ∧ o.idx = idx ∧ o.arg = arg ∧ o.size = size ∧
    (if size.toNat ≤ 19 then
      exec (.cmdr idx arg size) s = .next { s with
        busy := true, ops := o, freeCount := s.freeCount + 1,
        tokenMissing := false, phase := { major := .x2, minor := .t1 },
        history := .request (.cmdr idx arg size) :: s.history }
    else
      exec (.cmdr idx arg size) s = .next { s with
        ops := o, freeCount := s.freeCount + 1, kind := .refused, status := 0xFF, busy := false,
        phase := Phase.rest,
        history := .response .refused 0xFF :: .request (.cmdr idx arg size) :: s.history })

/-- O14 (R137, R147). CRC7 and CRC16 on a block at rest: the residual goes into the accumulator; with
`len` = 0 it is the result at once, else the source bytes are read next. The loop variable is the model's
field (log 17). -/
def Obligations.CrcRequests : Prop :=
  ∀ (s : State) (src : Handle) (len resIn : Half), s.busy = false → ∃ o₁ o₂ : Request,
    o₁.op = 5 ∧ o₁.src = src ∧ o₁.len = len ∧ o₁.resIn = resIn ∧
    o₂.op = 6 ∧ o₂.src = src ∧ o₂.len = len ∧ o₂.resIn = resIn ∧
    (if len = 0 then
      exec (.crc7 src len resIn) s = .next { s with
        ops := o₁, freeCount := s.freeCount + 1, acc7 := resIn.setWidth 8 <<< 1,
        crcOut := resIn &&& 0x7F, kind := .ok, status := 0x00, busy := false, phase := Phase.rest,
        history := .response .ok 0x00 :: .request (.crc7 src len resIn) :: s.history } ∧
      exec (.crc16 src len resIn) s = .next { s with
        ops := o₂, freeCount := s.freeCount + 1, acc16 := resIn,
        crcOut := resIn, kind := .ok, status := 0x00, busy := false, phase := Phase.rest,
        history := .response .ok 0x00 :: .request (.crc16 src len resIn) :: s.history }
    else
      exec (.crc7 src len resIn) s = .next { s with
        busy := true, ops := o₁, freeCount := s.freeCount + 1, acc7 := resIn.setWidth 8 <<< 1, k := 0,
        phase := { major := .k7, minor := .none }, history := .request (.crc7 src len resIn) :: s.history } ∧
      exec (.crc16 src len resIn) s = .next { s with
        busy := true, ops := o₂, freeCount := s.freeCount + 1, acc16 := resIn, k := 0,
        phase := { major := .k16, minor := .none }, history := .request (.crc16 src len resIn) :: s.history })

/-- O15 (R93). A request with op code 0 or 7 on a block at rest is answered `Resp(REFUSED, 0xFF)` at once,
with no other event, and no register but `kind`, `status`, `busy` and `phase` changes. -/
def Obligations.ReservedRequests : Prop :=
  ∀ s : State, s.busy = false →
    exec .reservedOp0 s = .next { s with
      kind := .refused, status := 0xFF, busy := false, phase := Phase.rest,
      history := .response .refused 0xFF :: .request .reservedOp0 :: s.history } ∧
    exec .reservedOp7 s = .next { s with
      kind := .refused, status := 0xFF, busy := false, phase := Phase.rest,
      history := .response .refused 0xFF :: .request .reservedOp7 :: s.history }

/-- O16 (R38). While the block is busy no request has a step; and the step the model makes never takes one.
That the model says so by a refusal is its choice (log 4). -/
def Obligations.RequestsWhileBusy : Prop :=
  ∀ (s : State) (r : Request), s.busy = true →
    exec r.toInstr s = .refused .requestWhileBusy ∧
    ∀ t, step s = .next t → t.requests = s.requests

/-! ### Frames and the token -/

/-- O17 (R65, R96, R100, R161). Executing a command frame sends the six bytes of R100 in one
`WriteContinue`; the bytes of CMD17, CMD18 and CMDn are built from their fields. That the CRC field of the
term is not read is the model's choice (log 12), and so is what executing a frame means in a state (log
13). -/
def Obligations.FramesSent : Prop :=
  ∀ (s : State) (arg : Word) (idx : BitVec 6) (crc : BitVec 7),
    let a : List Byte :=
      [arg.extractLsb' 24 8, arg.extractLsb' 16 8, arg.extractLsb' 8 8, arg.extractLsb' 0 8]
    let last (head : List Byte) : Byte := ((crc7 head 0).setWidth 8 <<< 1) ||| 1#8
    let first : Byte := 0x40#8 ||| idx.setWidth 8
    exec .cmd0 s = .next (s.sent [0x40, 0x00, 0x00, 0x00, 0x00, 0x95]) ∧
    exec .cmd8 s = .next (s.sent [0x48, 0x00, 0x00, 0x01, 0xAA, 0x87]) ∧
    exec .cmd9 s = .next (s.sent [0x49, 0x00, 0x00, 0x00, 0x00, 0xAF]) ∧
    exec .cmd10 s = .next (s.sent [0x4A, 0x00, 0x00, 0x00, 0x00, 0x1B]) ∧
    exec .cmd12 s = .next (s.sent [0x4C, 0x00, 0x00, 0x00, 0x00, 0x61]) ∧
    exec (.cmd17 arg crc) s = .next (s.sent (0x51 :: a ++ [last (0x51 :: a)])) ∧
    exec (.cmd18 arg crc) s = .next (s.sent (0x52 :: a ++ [last (0x52 :: a)])) ∧
    exec .cmd55 s = .next (s.sent [0x77, 0x00, 0x00, 0x00, 0x00, 0x65]) ∧
    exec .acmd41 s = .next (s.sent [0x69, 0x40, 0x00, 0x00, 0x00, 0x77]) ∧
    exec .cmd58 s = .next (s.sent [0x7A, 0x00, 0x00, 0x00, 0x00, 0xFD]) ∧
    exec (.cmdn idx arg crc) s = .next (s.sent (first :: a ++ [last (first :: a)]))

/-- O18 (R109, R164, R248). The token ends READ's wait, with the payload next and no tick read, and a
register read's wait, with the additional bytes next and the read counted; outside a wait 0xFE is no token
(log 22). -/
def Obligations.TokenEndsWait : Prop :=
  ∀ s : State,
    (s.busy = true → s.rxStage = .release → s.phase = ⟨.b3, .none⟩ →
      exec .dataStartToken s = .next { s with
        rxStage := .hold, mosiHold := .released, phase := { major := .b5, minor := .none },
        history := .releaseMosi :: s.history }) ∧
    (s.busy = true → s.rxStage = .release → s.phase.minor = .t3 →
      s.phase.major = .x2 ∨ s.phase.major = .i8 ∨ s.phase.major = .i9 →
      exec .dataStartToken s = .next { s with
        rxStage := .hold, mosiHold := .released, attempt := s.attempt + 1,
        phase := { major := s.phase.major, minor := .t4 }, history := .releaseMosi :: s.history }) ∧
    (s.phase.major ≠ .b3 → s.phase.minor ≠ .t3 →
      exec .dataStartToken s = .refused .tokenOutsideWait)

/-- O19 (R24, R35, R161). A step runs what is fetched: any bytes `fetch` gives are decoded and executed;
at rest the host's oldest request is taken off the queue and executed; at `T1` the frame of the step's
command; in a token wait the byte 0xFE. What stands for an instruction is the model's (log 13). -/
def Obligations.StepRunsFetched : Prop :=
  ∀ s : State,
    (∀ bytes i rest, fetch s = some bytes → decode bytes = .ok (i, rest) → step s = exec i s.consume) ∧
    (∀ r rs, s.busy = false → s.requests = r :: rs →
      step s = exec r.toInstr { s with requests := rs }) ∧
    (∀ idx arg size, s.busy = true → s.phase.minor = .t1 → s.command = some (idx, arg, size) →
      step s = exec (frameInstr idx arg (frameCrc idx arg)) s) ∧
    (s.tokenPending = true → s.tok = 0xFE → step s = exec .dataStartToken s)

/-- O20 (R53). With no request the block at rest waits: nothing changes and no event happens. -/
def Obligations.RestWaits : Prop :=
  ∀ (s : State) (n : Nat), s.busy = false → s.requests = [] → run n s = .next s

/-! ### The transaction layer -/

/-- O21 (R161). `BeginTransaction(i, a)` is one event, `WriteContinue` of the six bytes of `Frame(i, a)`; it
writes the shadow `cs` and checks nothing. -/
def Obligations.BeginTransactionStep : Prop :=
  ∀ (s : State) (idx : BitVec 6) (arg : Word) (size : Option Nat),
    s.busy = true → s.phase.minor = .t1 → s.command = some (idx, arg, size) →
    step s = .next (s.sent (frame idx arg)) ∧ (frame idx arg).length = 6

/-- O22 (R99, R100, R168, R169, R202, R244, R245, R255). The frames the operations send at their steps. The
arguments of ACMD41 and of the commands with argument 0 are the spec's decision D12 (log 10). -/
def Obligations.FramesOfTheSteps : Prop :=
  ∀ s : State, s.busy = true → s.phase.minor = .t1 →
    (s.phase.major = .i3 → step s = .next (s.sent [0x40, 0x00, 0x00, 0x00, 0x00, 0x95])) ∧
    (s.phase.major = .i4 → step s = .next (s.sent [0x48, 0x00, 0x00, 0x01, 0xAA, 0x87])) ∧
    (s.phase.major = .i5 ∨ s.phase.major = .i7 →
      step s = .next (s.sent [0x7A, 0x00, 0x00, 0x00, 0x00, 0xFD])) ∧
    (s.phase.major = .i6a → step s = .next (s.sent [0x77, 0x00, 0x00, 0x00, 0x00, 0x65])) ∧
    (s.phase.major = .i6b → step s = .next (s.sent [0x69, 0x40, 0x00, 0x00, 0x00, 0x77])) ∧
    (s.phase.major = .i8 ∨ s.phase.major = .i9 →
      step s = .next (s.sent [0x49, 0x00, 0x00, 0x00, 0x00, 0xAF])) ∧
    (s.phase.major = .b1 →
      step s = .next (s.sent (if s.ops.count = 1 then frame 17 s.ops.start else frame 18 s.ops.start))) ∧
    (s.phase.major = .b8 → step s = .next (s.sent [0x4C, 0x00, 0x00, 0x00, 0x00, 0x61])) ∧
    (s.phase.major = .x1 ∨ s.phase.major = .x2 → step s = .next (s.sent (frame s.ops.idx s.ops.arg)))

/-- O23 (R162, R163). One read of the R1 poll: the byte goes to `r1` and the read is counted; after a byte
with bit 7 set that is not the eighth the poll goes on, after any other the label is no longer `T2`. -/
def Obligations.PollReads : Prop :=
  ∀ (s : State) (c : BitVec 6 × Word × Option Nat),
    s.busy = true → s.phase.minor = .t2 → s.rxStage = .hold → s.command = some c →
    let u : State := { s.received 1 with r1 := s.nextByte, attempt := s.attempt + 1 }
    if s.nextByte.getLsbD 7 = true ∧ s.attempt + 1 ≠ 8 then run 3 s = .next u
    else ∃ t, run 3 s = .next t ∧ t.phase.minor ≠ .t2 ∧ t.r1 = s.nextByte ∧ t.history = u.history

/-- O24 (R162, R164, R246, R247). What follows a finished R1 poll: READ's commands leave the transaction
open; `SendCommand` elsewhere ends it; `SendCommandWithResult` with `size` > 1 goes on to a token search for
CMD9 and CMD10 and to the additional bytes for any other command, whatever R1 was. -/
def Obligations.PollEnds : Prop :=
  ∀ (s : State) (idx : BitVec 6) (arg : Word) (size : Option Nat),
    s.busy = true → s.phase.minor = .t2 → s.rxStage = .hold → s.command = some (idx, arg, size) →
    s.nextByte.getLsbD 7 = false ∨ s.attempt + 1 = 8 →
    let u : State := { s.received 1 with r1 := s.nextByte, attempt := s.attempt + 1 }
    let m := s.phase.major
    (m = .b1 → s.nextByte ≠ 0x00 → run 3 s = .next { u with phase := ⟨.b9, .t9⟩ }) ∧
    (m = .b1 → s.nextByte = 0x00 → run 3 s = .next { u with blkI := 0, phase := ⟨.b2, .none⟩ }) ∧
    (m = .b8 → run 3 s = .next { u with phase := ⟨.b9, .t9⟩ }) ∧
    (m ≠ .b1 → m ≠ .b8 → size = none → run 3 s = .next { u with phase := ⟨m, .t9⟩ }) ∧
    (∀ n, size = some n → n ≤ 1 →
      run 3 s = .next { u with tokenMissing := false, phase := ⟨m, .t9⟩ }) ∧
    (∀ n, size = some n → 1 < n → idx ≠ 9 → idx ≠ 10 →
      run 3 s = .next { u with tokenMissing := false, phase := ⟨m, .t4⟩ }) ∧
    (∀ n, size = some n → 1 < n → idx = 9 ∨ idx = 10 →
      run 3 s = .next { u with tokenMissing := false, attempt := 0, phase := ⟨m, .t3⟩ })

/-- O25 (R164, R165). One read of the register-token poll: 0xFE ends it with the additional bytes next; the
eighth byte that is not 0xFE ends it with the token missing and nothing more read; any other goes on. -/
def Obligations.RegisterTokenPoll : Prop :=
  ∀ s : State, s.busy = true → s.phase.minor = .t3 → s.rxStage = .hold →
    s.phase.major = .x2 ∨ s.phase.major = .i8 ∨ s.phase.major = .i9 →
    let u : State := { s.received 1 with tok := s.nextByte, attempt := s.attempt + 1 }
    run 3 s = .next (if s.nextByte = 0xFE then { u with phase := ⟨s.phase.major, .t4⟩ }
      else if s.attempt + 1 = 8 then { u with tokenMissing := true, phase := ⟨s.phase.major, .t9⟩ }
      else u)

/-- O26 (R33, R164). The additional bytes: one `ReadContinue(size - 1)`, its bytes in order of reception in
`resp`, the other registers of the file unchanged, and the end of the transaction next. -/
def Obligations.AdditionalBytes : Prop :=
  ∀ (s : State) (idx : BitVec 6) (arg : Word) (n : Nat),
    s.busy = true → s.phase.minor = .t4 → s.rxStage = .hold → s.command = some (idx, arg, some n) →
    ∃ v : Vector Byte 18,
      run 3 s = .next { s.received (n - 1) with resp := v, phase := ⟨s.phase.major, .t9⟩ } ∧
      ∀ i (h : i < 18), v[i] = if i < n - 1 then (s.incoming (n - 1)).getD i 0 else s.resp[i]

/-- O27 (R166, R277). `EndTransaction()` is one event, `Toggle(1)`, after which chip-select is released; in
the same step the operation either goes on or answers, and nothing else happens on the bus. -/
def Obligations.EndTransactionStep : Prop :=
  ∀ s : State, ControlInv s → s.busy = true → s.phase.minor = .t9 →
    ∃ t, step s = .next t ∧ t.cs = .deasserted ∧ t.mosiHold = .released ∧
      (t.busy = true ∧ t.history = .toggle 1 :: s.history ∨
        t.busy = false ∧ t.history = .response t.kind t.status :: .toggle 1 :: s.history)

/-- O28 (R168, R169). The answers of CMD and CMDR once the transaction has ended: a missing token, then a
missing R1, else the R1. -/
def Obligations.CommandAnswers : Prop :=
  ∀ s : State, s.busy = true → s.phase.minor = .t9 →
    (s.phase.major = .x1 →
      step s = .next (s.ended (if s.r1.getLsbD 7 then .errNoResponse else .ok) s.r1)) ∧
    (s.phase.major = .x2 →
      step s = .next (if s.tokenMissing then s.ended .errFraming 0xFF
        else s.ended (if s.r1.getLsbD 7 then .errNoResponse else .ok) s.r1))

/-! ### INIT -/

/-- O29 (R204, R205, R216). `I1`, `I2` and `I10`. -/
def Obligations.InitClockSteps : Prop :=
  ∀ s : State, s.busy = true → s.phase.minor = .none →
    (s.phase.major = .i1 → step s = .next { s with
      clkHz := 400000, phase := ⟨.i2, .none⟩, history := .setClock 400000 :: s.history }) ∧
    (s.phase.major = .i2 → step s = .next { s with
      cs := .deasserted, phase := ⟨.i3, .t1⟩, history := .toggle 10 :: s.history }) ∧
    (s.phase.major = .i10 → step s = .next { s with
      clkHz := 25000000, kind := .ok, status := 0x00, busy := false, phase := Phase.rest,
      history := .response .ok 0x00 :: .setClock 25000000 :: s.history })

/-- O30 (R47, R206). After CMD0: R1 = 0x01 goes on to CMD8, any other R1 ends INIT. In O30, O31, O33 and O34
`token_missing` is cleared where a `SendCommandWithResult` begins (log 23). -/
def Obligations.InitAfterCmd0 : Prop :=
  ∀ s : State, s.busy = true → s.phase = ⟨.i3, .t9⟩ →
    step s = .next (
      if s.r1 = 0x01 then { s.closed .i4 .t1 with tokenMissing := false } else s.ended .errR1 s.r1)

/-- O31 (R47, R207, R208). After CMD8: 0x05 is the V1 branch, 0x01 with the echo 0xAA the V2 branch, 0x01 with
another echo a framing error, any other R1 an error. -/
def Obligations.InitAfterCmd8 : Prop :=
  ∀ s : State, s.busy = true → s.phase = ⟨.i4, .t9⟩ →
    step s = .next (
      if s.r1 = 0x05 then { s.closed .i5 .t1 with v2 := false, tokenMissing := false }
      else if s.r1 = 0x01 then
        (if s.resp[3] = 0xAA then { s.closed .i5 .t1 with v2 := true, tokenMissing := false }
         else s.ended .errFraming 0xFF)
      else s.ended .errR1 s.r1)

/-- O32 (R202, R210, R211, R213). After the first CMD58: R1 above 0x01 ends INIT; else the OCR is kept and
the voltage predicate, an open parameter (log 9), decides between the loop, its counter at 0, and a voltage
error. -/
def Obligations.InitAfterCmd58 : Prop :=
  ∀ s : State, s.busy = true → s.phase = ⟨.i5, .t9⟩ →
    let ocr := be32 s.resp[0] s.resp[1] s.resp[2] s.resp[3]
    step s = .next (
      if s.r1 = 0x00 ∨ s.r1 = 0x01 then
        (if Config.vddAcceptable ocr then { s.closed .i6a .t1 with ocr := ocr, iter := 0 }
         else { s.ended .errVoltage 0xFF with ocr := ocr })
      else s.ended .errR1 s.r1)

/-- O33 (R47, R213, R215, R221). CMD55's answer changes nothing; neither does the first CMD9's. After ACMD41 the
pass is counted; R1 = 0x00 ends the loop towards the branch's next step; any other R1 begins another pass,
or ends INIT with that R1 when the bound is reached. -/
def Obligations.InitLoop : Prop :=
  ∀ s : State, s.busy = true → s.phase.minor = .t9 →
    (s.phase.major = .i6a → step s = .next (s.closed .i6b .t1)) ∧
    (s.phase.major = .i8 → step s = .next { s.closed .i9 .t1 with tokenMissing := false }) ∧
    (s.phase.major = .i6b → step s = .next (
      if s.r1 = 0x00 then
        (if s.v2 then { s.closed .i7 .t1 with tokenMissing := false, iter := s.iter + 1 }
         else { s.closed .i10 .none with iter := s.iter + 1 })
      else if Config.acmd41MaxIter = some (s.iter + 1) then
        { s.ended .errOpcondTimeout s.r1 with iter := s.iter + 1 }
      else { s.closed .i6a .t1 with iter := s.iter + 1 }))

/-- O34 (R47, R219, R220). After the second CMD58: R1 must be 0x00 and OCR bit 31 set; OCR bit 30 is kept. -/
def Obligations.InitAfterSecondCmd58 : Prop :=
  ∀ s : State, s.busy = true → s.phase = ⟨.i7, .t9⟩ →
    let ocr := be32 s.resp[0] s.resp[1] s.resp[2] s.resp[3]
    step s = .next (
      if s.r1 = 0x00 then
        (if s.resp[0].getLsbD 7 then
          { s.closed .i8 .t1 with ocr := ocr, ccsNew := s.resp[0].getLsbD 6, tokenMissing := false }
         else { s.ended .errFraming 0xFF with ocr := ocr })
      else s.ended .errR1 s.r1)

/-- O35 (R222 to R226). After the second CMD9: R1, then the token, then the CRC-16 over `resp[0..15]`; then
`blocks`, from the CSD size field, and `ccs` are written together. That `acc16` holds the CRC afterwards is
the model's (log 27). -/
def Obligations.InitAfterCsd : Prop :=
  ∀ s : State, s.busy = true → s.phase = ⟨.i9, .t9⟩ →
    let crc := crc16 (s.resp.toList.take 16) 0
    let cSize := (s.resp[7].toNat % 64) * 65536 + s.resp[8].toNat * 256 + s.resp[9].toNat
    step s = .next (
      if s.r1 ≠ 0x00 then s.ended .errR1 s.r1
      else if s.tokenMissing then s.ended .errFraming 0xFF
      else if crc ≠ be16 s.resp[16] s.resp[17] then { s.ended .errCrc 0xFF with acc16 := crc }
      else { s.closed .i10 .none with
        acc16 := crc, blocks := BitVec.ofNat 32 ((cSize + 1) * 1024), ccs := s.ccsNew })

/-! ### READ -/

/-- O36 (R248, R249, R250, R289). The start of a token wait, and one pass of it: 0xFE goes on to the payload
after one read, without a tick read; any other byte has the tick read, and the wait goes on while fewer than
100 ms have passed, as a difference modulo 2^32, and else ends in the abort path. Under the premise of R289
on its tick reads the wait ends, at the payload or in the abort path; without it, the wait lasts as long as
neither a token nor the deadline comes, for any number of passes. -/
def Obligations.ReadTokenWait : Prop :=
  ∀ s : State, s.busy = true →
    (s.phase = ⟨.b2, .none⟩ → step s = .next { s with
      ticks := s.ticks.tail, tickCount := if s.ticks = [] then s.tickCount + 1 else s.tickCount,
      t0 := s.nextTick, phase := ⟨.b3, .none⟩, history := .tick s.nextTick :: s.history }) ∧
    (s.phase = ⟨.b3, .none⟩ → s.rxStage = .hold →
      let u : State := { s.received 1 with tok := s.nextByte }
      let w : State := { u with
        ticks := s.ticks.tail, tickCount := if s.ticks = [] then s.tickCount + 1 else s.tickCount,
        now := s.nextTick, history := .tick s.nextTick :: u.history }
      if s.nextByte = 0xFE then run 3 s = .next { u with phase := ⟨.b5, .none⟩ }
      else if (s.nextTick.toNat + 2 ^ 32 - s.t0.toNat) % 2 ^ 32 < 100 then
        run 4 s = .next { w with phase := ⟨.b3, .none⟩ }
      else run 4 s = .next { w with phase := ⟨.b9, .t9⟩ }) ∧
    (s.phase = ⟨.b3, .none⟩ → s.rxStage = .hold → s.TickLiveness s.t0 →
      ∃ n t, run n s = .next t ∧ (t.phase = ⟨.b5, .none⟩ ∨ t.phase = ⟨.b9, .t9⟩)) ∧
    (s.phase = ⟨.b3, .none⟩ → s.rxStage = .hold → ∀ n,
      (∀ k, k < n → s.byteAt k ≠ 0xFE ∧ elapsed s.t0 (s.tickAt k) < 100) →
      ∃ t, run (4 * n) s = .next t ∧ t.phase = ⟨.b3, .none⟩ ∧ t.rxStage = .hold ∧ t.t0 = s.t0)

/-- O37 (R66, R247, R251 to R253, R255). The payload: one `ReadContinue(512)` whose bytes stand in `pay`,
with the CRC cleared; and the two CRC bytes, first byte high: a mismatch goes to the abort path, a match to
the next block, to CMD12 or to the end. The loop variable `j` is the model's field (log 17). -/
def Obligations.ReadPayloadAndCrc : Prop :=
  ∀ s : State, s.busy = true → s.rxStage = .hold →
    (s.phase = ⟨.b5, .none⟩ → ∃ v : Vector Byte 512, v.toList = s.incoming 512 ∧
      run 3 s = .next { s.received 512 with pay := v, acc16 := 0, j := 0, phase := ⟨.b6, .none⟩ }) ∧
    (s.phase = ⟨.b7, .none⟩ →
      let rx := be16 ((s.incoming 2).getD 0 0) ((s.incoming 2).getD 1 0)
      let u : State := { s.received 2 with rxCrc := rx }
      run 3 s = .next (
        if s.acc16 ≠ rx then { u with phase := ⟨.b9, .t9⟩ }
        else if s.blkI.toNat + 1 < s.ops.count.toNat then
          { u with blkI := s.blkI + 1, phase := ⟨.b2, .none⟩ }
        else if 1 < s.ops.count.toNat then { u with phase := ⟨.b8, .t1⟩ }
        else { u with phase := ⟨.b9, .t9⟩ }))

/-- O38 (R62, R251). One `MemWrite` of `B6`: the byte `pay[j]` to `BUF + 512*blk_i + j`, the CRC-16 over that
byte, every other address reading as before; after byte 511 the CRC bytes are next. The loop variable is
the model's field (log 17), and so is the address a handle names (log 6). -/
def Obligations.PayloadByte : Prop :=
  ∀ s : State, s.busy = true → s.phase = ⟨.b6, .none⟩ → s.mem.wf = true →
    let v := s.pay[s.j.toNat]
    let off := 512 * s.blkI.toNat + s.j.toNat
    ∃ m : Memory,
      step s = .next { s with
        mem := m, acc16 := crc16 [v] s.acc16, j := s.j + 1,
        phase := if s.j = 511 then ⟨.b7, .none⟩ else ⟨.b6, .none⟩,
        history := .memWrite s.ops.buf off v :: s.history } ∧
      m.read (address s.ops.buf off) = v ∧
      (∀ a, a ≠ address s.ops.buf off → m.read a = s.mem.read a) ∧ m.wf = true

/-- O39 (R246, R250, R253, R255, R256, R257). `B9`: the answer of READ, by the first check that failed. That
the check is recovered from the registers is the model's (log 21). -/
def Obligations.ReadAnswers : Prop :=
  ∀ s : State, s.busy = true → s.phase = ⟨.b9, .t9⟩ →
    step s = .next (
      if s.r1 ≠ 0x00 then s.ended .errR1 s.r1
      else if s.tok ≠ 0xFE then s.ended .errTokenTimeout s.tok
      else if s.acc16 ≠ s.rxCrc then s.ended .errCrc Config.statusCrcFail
      else s.ended .ok 0x00)

/-! ### Whole operations -/

/-- O40 (R163, R168). CMD from a block at rest against a card that sends `pre`, bytes with bit 7 set, and
then the byte `r` that ends the poll: every event and the answer. -/
def Obligations.CmdOperation : Prop :=
  ∀ (s : State) (idx : BitVec 6) (arg : Word) (pre rest : List Byte) (r : Byte),
    s.busy = false → s.rxStage = .hold → s.card = pre ++ r :: rest →
    (∀ b ∈ pre, b.getLsbD 7 = true) → pre.length < 8 → (r.getLsbD 7 = false ∨ pre.length = 7) →
    let k : Kind := if r.getLsbD 7 then .errNoResponse else .ok
    ∃ t u, exec (.cmd idx arg) s = .next t ∧ run (3 * pre.length + 5) t = .next u ∧
      u.answered k r ∧ u.busReleased ∧ u.r1 = r ∧ u.resp = s.resp ∧ u.crcOut = s.crcOut ∧
      u.sameSession s ∧ u.card = rest ∧ u.requests = s.requests ∧
      u.history = [.response k r, .toggle 1] ++ pollEvents (pre ++ [r]) ++
        [.writeContinue (frame idx arg), .request (.cmd idx arg)] ++ s.history

/-- O41 (R163, R164, R169). CMDR whose response is not token-wrapped, or of size 0 or 1. -/
def Obligations.CmdrOperation : Prop :=
  ∀ (s : State) (idx : BitVec 6) (arg : Word) (size : BitVec 5) (pre data rest : List Byte) (r : Byte),
    s.busy = false → s.rxStage = .hold → s.card = pre ++ r :: (data ++ rest) →
    (∀ b ∈ pre, b.getLsbD 7 = true) → pre.length < 8 → (r.getLsbD 7 = false ∨ pre.length = 7) →
    size.toNat ≤ 19 → data.length = size.toNat - 1 → (idx ≠ 9 ∧ idx ≠ 10 ∨ size.toNat ≤ 1) →
    let k : Kind := if r.getLsbD 7 then .errNoResponse else .ok
    ∃ t u, exec (.cmdr idx arg size) s = .next t ∧
      run (3 * pre.length + 5 + if 1 < size.toNat then 3 else 0) t = .next u ∧
      u.answered k r ∧ u.busReleased ∧ u.r1 = r ∧ u.respHolds s data ∧ u.crcOut = s.crcOut ∧
      u.sameSession s ∧ u.card = rest ∧ u.requests = s.requests ∧
      u.history = [.response k r, .toggle 1] ++ (if 1 < size.toNat then readEvents data else []) ++
        pollEvents (pre ++ [r]) ++
        [.writeContinue (frame idx arg), .request (.cmdr idx arg size)] ++ s.history

/-- O42 (R105, R164, R165, R169, R170). CMDR of CMD9 or CMD10 with `size` > 1 whose token comes within 8
reads, after the bytes `skip`. -/
def Obligations.CmdrRegisterOperation : Prop :=
  ∀ (s : State) (idx : BitVec 6) (arg : Word) (size : BitVec 5) (pre skip data rest : List Byte)
    (r : Byte),
    s.busy = false → s.rxStage = .hold → s.card = pre ++ r :: (skip ++ 0xFE :: (data ++ rest)) →
    (∀ b ∈ pre, b.getLsbD 7 = true) → pre.length < 8 → (r.getLsbD 7 = false ∨ pre.length = 7) →
    (∀ b ∈ skip, b ≠ 0xFE) → skip.length < 8 →
    (idx = 9 ∨ idx = 10) → 1 < size.toNat → size.toNat ≤ 19 → data.length = size.toNat - 1 →
    let k : Kind := if r.getLsbD 7 then .errNoResponse else .ok
    ∃ t u, exec (.cmdr idx arg size) s = .next t ∧
      run (3 * pre.length + 3 * skip.length + 11) t = .next u ∧
      u.answered k r ∧ u.busReleased ∧ u.r1 = r ∧ u.respHolds s data ∧ u.crcOut = s.crcOut ∧
      u.sameSession s ∧ u.card = rest ∧ u.requests = s.requests ∧
      u.history = [.response k r, .toggle 1] ++ readEvents data ++ pollEvents (skip ++ [0xFE]) ++
        pollEvents (pre ++ [r]) ++
        [.writeContinue (frame idx arg), .request (.cmdr idx arg size)] ++ s.history

/-- O43 (R164, R165, R169). CMDR of CMD9 or CMD10 with `size` > 1 whose token does not come within 8 reads:
`ERR_FRAMING` with status 0xFF, whatever R1 was, and `resp` unchanged. -/
def Obligations.CmdrTokenMissing : Prop :=
  ∀ (s : State) (idx : BitVec 6) (arg : Word) (size : BitVec 5) (pre skip rest : List Byte) (r : Byte),
    s.busy = false → s.rxStage = .hold → s.card = pre ++ r :: (skip ++ rest) →
    (∀ b ∈ pre, b.getLsbD 7 = true) → pre.length < 8 → (r.getLsbD 7 = false ∨ pre.length = 7) →
    (∀ b ∈ skip, b ≠ 0xFE) → skip.length = 8 →
    (idx = 9 ∨ idx = 10) → 1 < size.toNat → size.toNat ≤ 19 →
    ∃ t u, exec (.cmdr idx arg size) s = .next t ∧ run (3 * pre.length + 29) t = .next u ∧
      u.answered .errFraming 0xFF ∧ u.busReleased ∧ u.r1 = r ∧ u.resp = s.resp ∧ u.crcOut = s.crcOut ∧
      u.sameSession s ∧ u.card = rest ∧ u.requests = s.requests ∧
      u.history = [.response .errFraming 0xFF, .toggle 1] ++ pollEvents skip ++ pollEvents (pre ++ [r]) ++
        [.writeContinue (frame idx arg), .request (.cmdr idx arg size)] ++ s.history

/-- O44 (R137). CRC7 from a block at rest: `len` source bytes read in ascending order, then the response;
`crc_out` is the CRC-7 of those bytes from the low seven bits of the residual, its other bits 0. That `BUF`
and `SRC` lie in one memory is the model's (log 6). -/
def Obligations.Crc7Operation : Prop :=
  ∀ (s : State) (src : Handle) (len resIn : Half), s.busy = false →
    let bytes := sourceBytes s.mem src len.toNat
    ∃ t u, exec (.crc7 src len resIn) s = .next t ∧ run len.toNat t = .next u ∧
      u.answered .ok 0x00 ∧ u.crcOut = (crc7 bytes (resIn.setWidth 7)).setWidth 16 ∧
      u.sameSession s ∧ u.r1 = s.r1 ∧ u.resp = s.resp ∧ u.cs = s.cs ∧ u.mosiHold = s.mosiHold ∧
      u.card = s.card ∧ u.ticks = s.ticks ∧ u.requests = s.requests ∧
      u.history = .response .ok 0x00 :: sourceEvents src bytes ++
        .request (.crc7 src len resIn) :: s.history

/-- O45 (R147). CRC16 from a block at rest: as O44, the CRC-16 from the whole residual. That `BUF` and `SRC`
lie in one memory is the model's (log 6). -/
def Obligations.Crc16Operation : Prop :=
  ∀ (s : State) (src : Handle) (len resIn : Half), s.busy = false →
    let bytes := sourceBytes s.mem src len.toNat
    ∃ t u, exec (.crc16 src len resIn) s = .next t ∧ run len.toNat t = .next u ∧
      u.answered .ok 0x00 ∧ u.crcOut = crc16 bytes resIn ∧
      u.sameSession s ∧ u.r1 = s.r1 ∧ u.resp = s.resp ∧ u.cs = s.cs ∧ u.mosiHold = s.mosiHold ∧
      u.card = s.card ∧ u.ticks = s.ticks ∧ u.requests = s.requests ∧
      u.history = .response .ok 0x00 :: sourceEvents src bytes ++
        .request (.crc16 src len resIn) :: s.history

/-- O46 (R202, R213, R224, R229). INIT against a V2 card that answers at once, is not ready for the passes
`busyPasses` (CMD55's and ACMD41's R1) and then is: ERR_VOLTAGE if the voltage predicate rejects the OCR,
ERR_CRC if the CSD's CRC-16 is wrong, else READY with `blocks` and `ccs` from the card, the clock raised,
and as many CMD55 and ACMD41 frames as there were passes. Answers that come later in a poll, and a first
CMD9 without its token, are O23 to O25 and O33. -/
def Obligations.InitV2Operation : Prop :=
  ∀ (s : State) (e0 e1 e2 o0 o1 o2 o3 r55 p0 p1 p2 p3 q c0 c1 : Byte) (busyPasses : List (Byte × Byte))
    (discarded csd rest : List Byte),
    s.busy = false → s.rxStage = .hold → s.requests = [] →
    (∀ x ∈ busyPasses, x.1.getLsbD 7 = false ∧ x.2.getLsbD 7 = false ∧ x.2 ≠ 0x00) →
    (∀ n, Config.acmd41MaxIter = some n → busyPasses.length < n) →
    r55.getLsbD 7 = false → q.getLsbD 7 = false → p0.getLsbD 7 = true →
    discarded.length = 18 → csd.length = 16 →
    s.card = [0x01] ++ [0x01, e0, e1, e2, 0xAA] ++ [0x01, o0, o1, o2, o3] ++
      busyPasses.flatMap (fun x => [x.1, x.2]) ++ [r55, 0x00] ++ [0x00, p0, p1, p2, p3] ++
      q :: 0xFE :: discarded ++ 0x00 :: 0xFE :: csd ++ [c0, c1] ++ rest →
    let cSize := ((csd.getD 7 0).toNat % 64) * 65536 + (csd.getD 8 0).toNat * 256 + (csd.getD 9 0).toNat
    ∃ t u new, exec .init s = .next t ∧ run (64 + 10 * busyPasses.length) t = .next u ∧
      u.history = new ++ s.history ∧ u.busReleased ∧ u.mem = s.mem ∧ u.crcOut = s.crcOut ∧
      (if Config.vddAcceptable (be32 o0 o1 o2 o3) = false then
        u.answered .errVoltage 0xFF ∧ u.blocks = 0 ∧ u.ccs = false ∧ u.clkHz = 400000
      else if crc16 csd 0 ≠ be16 c0 c1 then
        u.answered .errCrc 0xFF ∧ u.blocks = 0 ∧ u.ccs = false ∧ u.clkHz = 400000 ∧ u.card = rest
      else
        u.answered .ok 0x00 ∧ u.blocks = BitVec.ofNat 32 ((cSize + 1) * 1024) ∧ u.ccs = p0.getLsbD 6 ∧
          u.clkHz = 25000000 ∧ u.card = rest ∧
          new.count (.writeContinue [0x77, 0x00, 0x00, 0x00, 0x00, 0x65]) = busyPasses.length + 1 ∧
          new.count (.writeContinue [0x69, 0x40, 0x00, 0x00, 0x00, 0x77]) = busyPasses.length + 1)

/-- O47 (R209, R217, R229). INIT against a V1 card that answers at once and is ready in the first pass: READY
with `blocks` = 0 and no frame with index 9. Later answers and more passes are O23, O24 and O33. -/
def Obligations.InitV1Operation : Prop :=
  ∀ (s : State) (e0 e1 e2 e3 o0 o1 o2 o3 r55 : Byte) (rest : List Byte),
    s.busy = false → s.rxStage = .hold → s.requests = [] → r55.getLsbD 7 = false →
    s.card = [0x01, 0x05, e0, e1, e2, e3, 0x01, o0, o1, o2, o3, r55, 0x00] ++ rest →
    ∃ t u new, exec .init s = .next t ∧ run 34 t = .next u ∧ u.history = new ++ s.history ∧
      u.busReleased ∧ u.mem = s.mem ∧ u.blocks = 0 ∧ u.ccs = false ∧
      (∀ bs, .writeContinue bs ∈ new → bs.head? ≠ some 0x49) ∧
      (if Config.vddAcceptable (be32 o0 o1 o2 o3) = false then
        u.answered .errVoltage 0xFF ∧ u.clkHz = 400000
      else u.answered .ok 0x00 ∧ u.clkHz = 25000000 ∧ u.card = rest)

/-- O48 (R241, R252, R253, R259). READ of one block that is in range, the card answering at once: the
payload stands in `BUF` and every other address reads as before; the answer is OK when the two bytes after
the payload are its CRC-16, high byte first, and ERR_CRC otherwise. The address a handle and an offset name
is the model's (log 6). -/
def Obligations.ReadOneBlock : Prop :=
  ∀ (s : State) (start : Word) (buf : Handle) (payload rest : List Byte) (c0 c1 : Byte),
    s.busy = false → s.rxStage = .hold → s.mem.wf = true → start.toNat ≤ s.blocks.toNat →
    payload.length = 512 → s.card = 0x00 :: 0xFE :: payload ++ [c0, c1] ++ rest →
    ∃ t u, exec (.read start 1 buf) s = .next t ∧ run 527 t = .next u ∧
      (if crc16 payload 0 = be16 c0 c1 then u.answered .ok 0x00
       else u.answered .errCrc Config.statusCrcFail) ∧
      (∀ i, i < 512 → u.mem.read (address buf i) = payload.getD i 0) ∧
      (∀ a, (∀ i, i < 512 → a ≠ address buf i) → u.mem.read a = s.mem.read a) ∧
      u.busReleased ∧ u.blocks = s.blocks ∧ u.ccs = s.ccs ∧ u.clkHz = s.clkHz ∧ u.card = rest

/-- O49 (R241, R247, R251, R255, R259). READ of `n` > 1 blocks, in range, the card sending every block with
its token at once and its CRC-16 right, and answering CMD12 with `q`: all payloads stand in `BUF` in order
of arrival, every other address reads as before, CMD12 is sent exactly once and its R1 is the result. The
address a handle and an offset name is the model's (log 6). -/
def Obligations.ReadManyBlocks : Prop :=
  ∀ (s : State) (start count : Word) (buf : Handle) (payloads : List (List Byte)) (rest : List Byte)
    (q : Byte),
    s.busy = false → s.rxStage = .hold → s.mem.wf = true →
    payloads.length = count.toNat → 1 < count.toNat →
    start.toNat + count.toNat - 1 ≤ s.blocks.toNat →
    (∀ p ∈ payloads, p.length = 512) → q.getLsbD 7 = false →
    s.card = 0x00 :: payloads.flatMap (fun p => 0xFE :: p ++ bytes16 (crc16 p 0)) ++ q :: rest →
    ∃ t u new, exec (.read start count buf) s = .next t ∧ run (522 * count.toNat + 9) t = .next u ∧
      (if q = 0x00 then u.answered .ok 0x00 else u.answered .errR1 q) ∧
      (∀ i, i < 512 * count.toNat → u.mem.read (address buf i) = payloads.flatten.getD i 0) ∧
      (∀ a, (∀ i, i < 512 * count.toNat → a ≠ address buf i) → u.mem.read a = s.mem.read a) ∧
      u.history = new ++ s.history ∧
      new.count (.writeContinue [0x4C, 0x00, 0x00, 0x00, 0x00, 0x61]) = 1 ∧
      u.busReleased ∧ u.blocks = s.blocks ∧ u.ccs = s.ccs ∧ u.clkHz = s.clkHz ∧ u.card = rest

/-! ### Invariants and rules of the whole machine -/

/-- O50 (R53, R54). What reset leaves: the values of R53, no event, and every invariant. -/
def Obligations.ResetValues : Prop :=
  State.reset.blocks = 0 ∧ State.reset.ccs = false ∧ State.reset.busy = false ∧
    State.reset.phase = ⟨.idle, .none⟩ ∧ State.reset.cs = .deasserted ∧
    State.reset.mosiHold = .released ∧ State.reset.history = [] ∧ State.reset.mem.wf = true ∧
    ControlInv State.reset ∧ SessionInv State.reset ∧ BlockInv State.reset ∧ BusInv State.reset ∧
    RestInv State.reset

/-- O51 (R35, R36, R37, R47, R54, R94, R163 to R165, R242, R247). Every step keeps the control invariant. -/
def Obligations.StepKeepsControl : Prop :=
  ∀ s t : State, ControlInv s → step s = .next t → ControlInv t

/-- O52 (R62). Every step keeps host memory in its canonical form (log 7). -/
def Obligations.StepKeepsMemoryForm : Prop :=
  ∀ s t : State, s.mem.wf = true → step s = .next t → t.mem.wf = true

/-- O53 (R21, R48, R226, R313). Every step keeps the session invariant. -/
def Obligations.StepKeepsSession : Prop :=
  ∀ s t : State, ControlInv s → SessionInv s → step s = .next t → SessionInv t

/-- O54 (R62, R146, R251). Every step keeps what is known of the block being received. -/
def Obligations.StepKeepsBlock : Prop :=
  ∀ s t : State, s.mem.wf = true → ControlInv s → BlockInv s → step s = .next t → BlockInv t

/-- O55 (R39 to R41, R71, R167, R311, R317). Every step keeps the rules of the bus. -/
def Obligations.StepKeepsBus : Prop :=
  ∀ s t : State, ControlInv s → BusInv s → step s = .next t → BusInv t

/-- O56 (R270, R310). There is no third outcome: under the control invariant every step answers a next
state, never a fault or a refusal. -/
def Obligations.EveryStepGoesOn : Prop :=
  ∀ s : State, ControlInv s → ∃ t, step s = .next t

/-- O57 (R24, R31). While the block is busy no step writes an operand register; the result registers `kind`
and `status` change only in the step that ends the operation, which raises exactly one response, and that
one says what the registers hold. -/
def Obligations.OperandsAndResults : Prop :=
  ∀ s t : State, s.busy = true → step s = .next t →
    t.ops = s.ops ∧
    (t.busy = true ∧ t.kind = s.kind ∧ t.status = s.status ∧
        t.history.countP Event.isResponse = s.history.countP Event.isResponse ∨
      t.busy = false ∧ t.phase = Phase.rest ∧ ∃ h, t.history = .response t.kind t.status :: h ∧
        h.countP Event.isResponse = s.history.countP Event.isResponse)

/-- O58 (R21, R22, R203, R226). `blocks` and `ccs` are written by two steps only: the one that takes an INIT
request clears both; the one that ends the second CMD9 commits both. -/
def Obligations.SessionWriters : Prop :=
  ∀ s t : State, step s = .next t →
    (t.blocks = s.blocks ∧ t.ccs = s.ccs) ∨
    (s.busy = false ∧ (∃ r rs, s.requests = r :: rs ∧ r.op = 1) ∧ t.blocks = 0 ∧ t.ccs = false) ∨
    (s.busy = true ∧ s.phase = ⟨.i9, .t9⟩ ∧ s.r1 = 0x00 ∧ s.tokenMissing = false ∧
      crc16 (s.resp.toList.take 16) 0 = be16 s.resp[16] s.resp[17] ∧ t.ccs = s.ccsNew)

/-- O59 (R62, R63, R73, R78). Host memory changes only by a `MemWrite` of `B6`, and then at one address. -/
def Obligations.MemoryWriters : Prop :=
  ∀ s t : State, s.mem.wf = true → step s = .next t →
    t.mem = s.mem ∨
    (s.busy = true ∧ s.phase = ⟨.b6, .none⟩ ∧
      ∀ a, a ≠ address s.ops.buf (512 * s.blkI.toNat + s.j.toNat) → t.mem.read a = s.mem.read a)

/-- O60 (R12, R52, R77, R166, R167, R173 to R175, R288). A step appends at most two events to the history and
alters none, and each event it appends comes from where the spec says it can: a clock change from `I1` and
`I10` only, a tick read from `B2` and `B4` only, a memory write from `B6` only, and so on. -/
def Obligations.EventSources : Prop :=
  ∀ s t : State, step s = .next t →
    ∃ new, t.history = new ++ s.history ∧ new.length ≤ 2 ∧ ∀ e ∈ new, e.comesFrom s t
end

