-- ==== Sys2Proof/Laws/Bytes.lean ====
section
/-! SUPPORT. Splitting values into bytes and putting them together again, and the fields of a frame. -/

namespace Sys2Proof.Machine

theorem be16_bytes (h : Half) : be16 (h.extractLsb' 8 8) (h.extractLsb' 0 8) = h := by
  unfold be16
  ext i hi
  have e := BitVec.getLsbD_eq_getElem (x := h) (i := i) (by omega)
  simp only [BitVec.getElem_append, BitVec.getElem_extractLsb']
  split_ifs <;> rw [← e] <;> congr 1 <;> omega

theorem be32_bytes (w : Word) :
    be32 (w.extractLsb' 24 8) (w.extractLsb' 16 8) (w.extractLsb' 8 8) (w.extractLsb' 0 8) = w := by
  unfold be32
  ext i hi
  have e := BitVec.getLsbD_eq_getElem (x := w) (i := i) (by omega)
  simp only [BitVec.getElem_append, BitVec.getElem_extractLsb']
  split_ifs <;> rw [← e] <;> congr 1 <;> omega

theorem handle_halves (h : Handle) : h.extractLsb' 32 32 ++ h.extractLsb' 0 32 = h := by
  ext i hi
  have e := BitVec.getLsbD_eq_getElem (x := h) (i := i) (by omega)
  simp only [BitVec.getElem_append, BitVec.getElem_extractLsb']
  split_ifs <;> rw [← e] <;> congr 1 <;> omega

@[simp] theorem bytes32_length (w : Word) : (bytes32 w).length = 4 := rfl
@[simp] theorem bytes16_length (w : Half) : (bytes16 w).length = 2 := rfl
@[simp] theorem bytes64_length (w : Handle) : (bytes64 w).length = 8 := rfl
@[simp] theorem frame_length (idx : BitVec 6) (arg : Word) : (frame idx arg).length = 6 := rfl

/-- The index comes back out of byte 0. -/
theorem frameFirst_idx (idx : BitVec 6) : (frameFirst idx).setWidth 6 = idx := by
  revert idx; decide

theorem frameFirst_ne_token (idx : BitVec 6) : frameFirst idx ≠ 0xFE := by
  revert idx; decide

theorem frameFirst_prefix (idx : BitVec 6) : (frameFirst idx).extractLsb' 6 2 = 1 := by
  revert idx; decide

theorem frameFirst_not_op (idx : BitVec 6) : (frameFirst idx).extractLsb' 3 5 ≠ 0 := by
  revert idx; decide

/-- The CRC field comes back out of byte 5. -/
theorem frameLast_crc (crc : BitVec 7) : (frameLast crc).extractLsb' 1 7 = crc := by
  revert crc; decide

theorem frameLast_stop (crc : BitVec 7) : (frameLast crc).getLsbD 0 = true := by
  revert crc; decide

end Sys2Proof.Machine
end

