-- ==== Sys2Proof/Laws/Crc.lean ====
section
/-! SUPPORT. The checksum units over lists: empty, one byte more, concatenation. -/

namespace Sys2Proof.Machine

@[simp] theorem crc7_nil (r : BitVec 7) : crc7 [] r = r := rfl
@[simp] theorem crc7_cons (b : Byte) (bs : List Byte) (r : BitVec 7) :
    crc7 (b :: bs) r = crc7 bs (crc7Byte r b) := rfl
@[simp] theorem crc16_nil (r : Half) : crc16 [] r = r := rfl
@[simp] theorem crc16_cons (b : Byte) (bs : List Byte) (r : Half) :
    crc16 (b :: bs) r = crc16 bs (crc16Byte r b) := rfl

theorem crc7_append (a b : List Byte) (r : BitVec 7) : crc7 (a ++ b) r = crc7 b (crc7 a r) :=
  List.foldl_append

theorem crc16_append (a b : List Byte) (r : Half) : crc16 (a ++ b) r = crc16 b (crc16 a r) :=
  List.foldl_append

end Sys2Proof.Machine
end

