-- ==== Sys2Proof/Laws/Decode.lean ====
section
/-! SUPPORT. What the decoder gives on the bytes of a request and on the bytes of a frame. -/

namespace Sys2Proof

theorem op_byte_facts : ∀ op : BitVec 3,
    op.setWidth 8 ≠ (0xFE : Byte) ∧ (op.setWidth 8).extractLsb' 3 5 = 0 ∧ (op.setWidth 8).setWidth 3 = op := by
  decide

theorem idx_byte_facts : ∀ idx : BitVec 6,
    (idx.setWidth 8).extractLsb' 6 2 = 0 ∧ (idx.setWidth 8).setWidth 6 = idx := by decide

theorem size_byte_facts : ∀ size : BitVec 5,
    (size.setWidth 8).extractLsb' 5 3 = 0 ∧ (size.setWidth 8).setWidth 5 = size := by decide

/-- The bytes of a request decode to the instruction of its op code (R91, R92). -/
theorem decode_request (r : Request) (rest : List Byte) :
    decode (r.toBytes ++ rest) = .ok (r.toInstr, rest) := by
  obtain ⟨h1, h2, h3⟩ := op_byte_facts r.op
  obtain ⟨h4, h5⟩ := idx_byte_facts r.idx
  obtain ⟨h6, h7⟩ := size_byte_facts r.size
  have hb (h : Handle) :
      be64 ((h.extractLsb' 32 32).extractLsb' 24 8) ((h.extractLsb' 32 32).extractLsb' 16 8)
        ((h.extractLsb' 32 32).extractLsb' 8 8) ((h.extractLsb' 32 32).extractLsb' 0 8)
        ((h.extractLsb' 0 32).extractLsb' 24 8) ((h.extractLsb' 0 32).extractLsb' 16 8)
        ((h.extractLsb' 0 32).extractLsb' 8 8) ((h.extractLsb' 0 32).extractLsb' 0 8) = h := by
    rw [be64, Machine.be32_bytes, Machine.be32_bytes, Machine.handle_halves]
  simp only [Request.toBytes, Machine.bytes64, Machine.bytes32, Machine.bytes16, List.cons_append,
    List.nil_append, decode, if_neg h1, if_pos h2, decodeRequest, h4, h6, and_self, if_true,
    h3, h5, h7, Machine.be32_bytes, Machine.be16_bytes, hb]

/-- Six bytes laid out as a frame decode to the instruction of their fields (R95, R98). -/
theorem decode_frame_fields (idx : BitVec 6) (arg : Word) (crc : BitVec 7) (rest : List Byte) :
    decode (Machine.frameFirst idx :: (Machine.bytes32 arg ++ Machine.frameLast crc :: rest)) =
      .ok (frameInstr idx arg crc, rest) := by
  simp only [Machine.bytes32, List.cons_append, List.nil_append, decode,
    if_neg (Machine.frameFirst_ne_token idx), if_neg (Machine.frameFirst_not_op idx),
    if_pos (Machine.frameFirst_prefix idx), decodeFrame, Machine.frameLast_stop, if_true,
    Machine.frameFirst_idx, Machine.be32_bytes, Machine.frameLast_crc]

/-- The frame of an index and an argument decodes to the instruction of its fields (R97, R98). -/
theorem decode_frame (idx : BitVec 6) (arg : Word) (rest : List Byte) :
    decode (Machine.frame idx arg ++ rest) =
      .ok (frameInstr idx arg (Machine.frameCrc idx arg), rest) := by
  have h := decode_frame_fields idx arg (Machine.frameCrc idx arg) rest
  simpa [Machine.frame, Machine.frameHead] using h

end Sys2Proof
end

