-- ==== Sys2Proof/Laws/Memory.lean ====
section
/-! SUPPORT. Host memory: a read after a write, and the canonical form. -/

namespace Sys2Proof.Machine.Memory

@[simp] theorem read_nil (x : Nat) : Memory.read [] x = Config.unlistedByte := rfl

theorem wf_iff (m : Memory) :
    m.wf = true ↔ m.Pairwise (fun x y => x.1 < y.1) ∧ ∀ x ∈ m, x.2 ≠ Config.unlistedByte := by
  simp [Memory.wf]

/-- An address below every listed one reads as unlisted. -/
theorem read_below (m : Memory) (x : Nat) (h : ∀ c ∈ m, x < c.1) : m.read x = Config.unlistedByte := by
  induction m with
  | nil => rfl
  | cons c m ih =>
    have hx := h c (by simp)
    rw [Memory.read, if_neg (by omega)]
    exact ih (fun d hd => h d (by simp [hd]))

/-- Every entry after a write was there before or is the one written. -/
theorem mem_write (m : Memory) (x : Nat) (v : Byte) (c : Host.Cell) (h : c ∈ m.write x v) :
    c ∈ m ∨ c = (x, v) ∧ v ≠ Config.unlistedByte := by
  induction m with
  | nil =>
    by_cases hv : v = Config.unlistedByte <;> simp_all [Memory.write]
  | cons d m ih =>
    obtain ⟨a, u⟩ := d
    rw [Memory.write] at h
    split_ifs at h <;> simp at h ⊢ <;> grind

theorem write_wf (m : Memory) (x : Nat) (v : Byte) (h : m.wf = true) : (m.write x v).wf = true := by
  rw [wf_iff] at h ⊢
  induction m with
  | nil => by_cases hv : v = Config.unlistedByte <;> simp [Memory.write, hv]
  | cons d m ih =>
    obtain ⟨a, u⟩ := d
    obtain ⟨hp, hu⟩ := h
    rw [List.pairwise_cons] at hp
    obtain ⟨p, q⟩ := ih ⟨hp.2, fun y hy => hu y (by simp [hy])⟩
    have below : ∀ c ∈ Memory.write m x v, a < c.1 ∨ c.1 = x := by
      intro c hc
      rcases mem_write m x v c hc with h | ⟨rfl, -⟩
      · exact Or.inl (hp.1 c h)
      · exact Or.inr rfl
    rw [Memory.write]
    split_ifs with h1 h2 h3 h4
    · exact ⟨List.pairwise_cons.mpr hp, hu⟩
    · refine ⟨List.pairwise_cons.mpr ⟨fun c hc => ?_, List.pairwise_cons.mpr hp⟩, ?_⟩
      · rcases List.mem_cons.mp hc with rfl | hc
        · exact h1
        · exact Nat.lt_trans h1 (hp.1 c hc)
      · intro c hc
        rcases List.mem_cons.mp hc with rfl | hc
        · exact h2
        · exact hu c hc
    · exact ⟨hp.2, fun y hy => hu y (by simp [hy])⟩
    · subst h3
      refine ⟨List.pairwise_cons.mpr ⟨hp.1, hp.2⟩, ?_⟩
      intro c hc
      rcases List.mem_cons.mp hc with rfl | hc
      · exact h4
      · exact hu c (by simp [hc])
    · refine ⟨List.pairwise_cons.mpr ⟨fun c hc => ?_, p⟩, ?_⟩
      · rcases below c hc with h | h
        · exact h
        · simp only at *; omega
      · intro c hc
        rcases List.mem_cons.mp hc with rfl | hc
        · exact hu _ (by simp)
        · exact q c hc

theorem read_write_same (m : Memory) (x : Nat) (v : Byte) (h : m.wf = true) : (m.write x v).read x = v := by
  rw [wf_iff] at h
  induction m with
  | nil => by_cases hv : v = Config.unlistedByte <;> simp [Memory.write, Memory.read, hv]
  | cons d m ih =>
    obtain ⟨a, u⟩ := d
    obtain ⟨hp, hu⟩ := h
    rw [List.pairwise_cons] at hp
    rw [Memory.write]
    split_ifs with h1 h2 h3 h4
    · rw [h2]
      apply read_below
      intro c hc
      rcases List.mem_cons.mp hc with rfl | hc
      · exact h1
      · exact Nat.lt_trans h1 (hp.1 c hc)
    · simp [Memory.read]
    · rw [h4]
      subst h3
      exact read_below m _ hp.1
    · simp [Memory.read]
    · rw [Memory.read, if_neg h3]
      exact ih ⟨hp.2, fun y hy => hu y (by simp [hy])⟩

theorem read_write_other (m : Memory) (x y : Nat) (v : Byte) (hxy : y ≠ x) (h : m.wf = true) :
    (m.write x v).read y = m.read y := by
  rw [wf_iff] at h
  induction m with
  | nil => by_cases hv : v = Config.unlistedByte <;> simp [Memory.write, Memory.read, hv, hxy]
  | cons d m ih =>
    obtain ⟨a, u⟩ := d
    obtain ⟨hp, hu⟩ := h
    rw [List.pairwise_cons] at hp
    rw [Memory.write]
    split_ifs with h1 h2 h3 h4
    · rfl
    · rw [Memory.read, if_neg hxy]
    · subst h3
      rw [Memory.read, if_neg hxy]
    · subst h3
      rw [Memory.read, if_neg hxy, Memory.read, if_neg hxy]
    · rw [Memory.read, Memory.read, ih ⟨hp.2, fun y hy => hu y (by simp [hy])⟩]

end Sys2Proof.Machine.Memory
end

