-- ==== Sys2Proof/Laws/State.lean ====
section
/-! SUPPORT. For each named update of the state (Machine/Ops.lean), each field after it. -/

namespace Sys2Proof.Machine.State

@[simp] theorem log_blocks (s : State) (e : Event) : (s.log e).blocks = s.blocks := rfl
@[simp] theorem log_ccs (s : State) (e : Event) : (s.log e).ccs = s.ccs := rfl
@[simp] theorem log_ops (s : State) (e : Event) : (s.log e).ops = s.ops := rfl
@[simp] theorem log_status (s : State) (e : Event) : (s.log e).status = s.status := rfl
@[simp] theorem log_kind (s : State) (e : Event) : (s.log e).kind = s.kind := rfl
@[simp] theorem log_r1 (s : State) (e : Event) : (s.log e).r1 = s.r1 := rfl
@[simp] theorem log_resp (s : State) (e : Event) : (s.log e).resp = s.resp := rfl
@[simp] theorem log_crcOut (s : State) (e : Event) : (s.log e).crcOut = s.crcOut := rfl
@[simp] theorem log_busy (s : State) (e : Event) : (s.log e).busy = s.busy := rfl
@[simp] theorem log_phase (s : State) (e : Event) : (s.log e).phase = s.phase := rfl
@[simp] theorem log_cs (s : State) (e : Event) : (s.log e).cs = s.cs := rfl
@[simp] theorem log_mosiHold (s : State) (e : Event) : (s.log e).mosiHold = s.mosiHold := rfl
@[simp] theorem log_clkHz (s : State) (e : Event) : (s.log e).clkHz = s.clkHz := rfl
@[simp] theorem log_v2 (s : State) (e : Event) : (s.log e).v2 = s.v2 := rfl
@[simp] theorem log_attempt (s : State) (e : Event) : (s.log e).attempt = s.attempt := rfl
@[simp] theorem log_iter (s : State) (e : Event) : (s.log e).iter = s.iter := rfl
@[simp] theorem log_blkI (s : State) (e : Event) : (s.log e).blkI = s.blkI := rfl
@[simp] theorem log_j (s : State) (e : Event) : (s.log e).j = s.j := rfl
@[simp] theorem log_pay (s : State) (e : Event) : (s.log e).pay = s.pay := rfl
@[simp] theorem log_t0 (s : State) (e : Event) : (s.log e).t0 = s.t0 := rfl
@[simp] theorem log_now (s : State) (e : Event) : (s.log e).now = s.now := rfl
@[simp] theorem log_tok (s : State) (e : Event) : (s.log e).tok = s.tok := rfl
@[simp] theorem log_tokenMissing (s : State) (e : Event) : (s.log e).tokenMissing = s.tokenMissing := rfl
@[simp] theorem log_acc7 (s : State) (e : Event) : (s.log e).acc7 = s.acc7 := rfl
@[simp] theorem log_acc16 (s : State) (e : Event) : (s.log e).acc16 = s.acc16 := rfl
@[simp] theorem log_rxCrc (s : State) (e : Event) : (s.log e).rxCrc = s.rxCrc := rfl
@[simp] theorem log_ocr (s : State) (e : Event) : (s.log e).ocr = s.ocr := rfl
@[simp] theorem log_ccsNew (s : State) (e : Event) : (s.log e).ccsNew = s.ccsNew := rfl
@[simp] theorem log_history (s : State) (e : Event) : (s.log e).history = e :: s.history := rfl
@[simp] theorem log_mem (s : State) (e : Event) : (s.log e).mem = s.mem := rfl
@[simp] theorem log_k (s : State) (e : Event) : (s.log e).k = s.k := rfl
@[simp] theorem log_rxStage (s : State) (e : Event) : (s.log e).rxStage = s.rxStage := rfl
@[simp] theorem log_requests (s : State) (e : Event) : (s.log e).requests = s.requests := rfl
@[simp] theorem log_card (s : State) (e : Event) : (s.log e).card = s.card := rfl
@[simp] theorem log_cardCount (s : State) (e : Event) : (s.log e).cardCount = s.cardCount := rfl
@[simp] theorem log_ticks (s : State) (e : Event) : (s.log e).ticks = s.ticks := rfl
@[simp] theorem log_tickCount (s : State) (e : Event) : (s.log e).tickCount = s.tickCount := rfl
@[simp] theorem log_freeCount (s : State) (e : Event) : (s.log e).freeCount = s.freeCount := rfl

@[simp] theorem goto_blocks (s : State) (a : Major) (b : Minor) : (s.goto a b).blocks = s.blocks := rfl
@[simp] theorem goto_ccs (s : State) (a : Major) (b : Minor) : (s.goto a b).ccs = s.ccs := rfl
@[simp] theorem goto_ops (s : State) (a : Major) (b : Minor) : (s.goto a b).ops = s.ops := rfl
@[simp] theorem goto_status (s : State) (a : Major) (b : Minor) : (s.goto a b).status = s.status := rfl
@[simp] theorem goto_kind (s : State) (a : Major) (b : Minor) : (s.goto a b).kind = s.kind := rfl
@[simp] theorem goto_r1 (s : State) (a : Major) (b : Minor) : (s.goto a b).r1 = s.r1 := rfl
@[simp] theorem goto_resp (s : State) (a : Major) (b : Minor) : (s.goto a b).resp = s.resp := rfl
@[simp] theorem goto_crcOut (s : State) (a : Major) (b : Minor) : (s.goto a b).crcOut = s.crcOut := rfl
@[simp] theorem goto_busy (s : State) (a : Major) (b : Minor) : (s.goto a b).busy = s.busy := rfl
@[simp] theorem goto_phase (s : State) (a : Major) (b : Minor) : (s.goto a b).phase = ⟨a, b⟩ := rfl
@[simp] theorem goto_cs (s : State) (a : Major) (b : Minor) : (s.goto a b).cs = s.cs := rfl
@[simp] theorem goto_mosiHold (s : State) (a : Major) (b : Minor) : (s.goto a b).mosiHold = s.mosiHold := rfl
@[simp] theorem goto_clkHz (s : State) (a : Major) (b : Minor) : (s.goto a b).clkHz = s.clkHz := rfl
@[simp] theorem goto_v2 (s : State) (a : Major) (b : Minor) : (s.goto a b).v2 = s.v2 := rfl
@[simp] theorem goto_attempt (s : State) (a : Major) (b : Minor) : (s.goto a b).attempt = s.attempt := rfl
@[simp] theorem goto_iter (s : State) (a : Major) (b : Minor) : (s.goto a b).iter = s.iter := rfl
@[simp] theorem goto_blkI (s : State) (a : Major) (b : Minor) : (s.goto a b).blkI = s.blkI := rfl
@[simp] theorem goto_j (s : State) (a : Major) (b : Minor) : (s.goto a b).j = s.j := rfl
@[simp] theorem goto_pay (s : State) (a : Major) (b : Minor) : (s.goto a b).pay = s.pay := rfl
@[simp] theorem goto_t0 (s : State) (a : Major) (b : Minor) : (s.goto a b).t0 = s.t0 := rfl
@[simp] theorem goto_now (s : State) (a : Major) (b : Minor) : (s.goto a b).now = s.now := rfl
@[simp] theorem goto_tok (s : State) (a : Major) (b : Minor) : (s.goto a b).tok = s.tok := rfl
@[simp] theorem goto_tokenMissing (s : State) (a : Major) (b : Minor) : (s.goto a b).tokenMissing = s.tokenMissing := rfl
@[simp] theorem goto_acc7 (s : State) (a : Major) (b : Minor) : (s.goto a b).acc7 = s.acc7 := rfl
@[simp] theorem goto_acc16 (s : State) (a : Major) (b : Minor) : (s.goto a b).acc16 = s.acc16 := rfl
@[simp] theorem goto_rxCrc (s : State) (a : Major) (b : Minor) : (s.goto a b).rxCrc = s.rxCrc := rfl
@[simp] theorem goto_ocr (s : State) (a : Major) (b : Minor) : (s.goto a b).ocr = s.ocr := rfl
@[simp] theorem goto_ccsNew (s : State) (a : Major) (b : Minor) : (s.goto a b).ccsNew = s.ccsNew := rfl
@[simp] theorem goto_history (s : State) (a : Major) (b : Minor) : (s.goto a b).history = s.history := rfl
@[simp] theorem goto_mem (s : State) (a : Major) (b : Minor) : (s.goto a b).mem = s.mem := rfl
@[simp] theorem goto_k (s : State) (a : Major) (b : Minor) : (s.goto a b).k = s.k := rfl
@[simp] theorem goto_rxStage (s : State) (a : Major) (b : Minor) : (s.goto a b).rxStage = s.rxStage := rfl
@[simp] theorem goto_requests (s : State) (a : Major) (b : Minor) : (s.goto a b).requests = s.requests := rfl
@[simp] theorem goto_card (s : State) (a : Major) (b : Minor) : (s.goto a b).card = s.card := rfl
@[simp] theorem goto_cardCount (s : State) (a : Major) (b : Minor) : (s.goto a b).cardCount = s.cardCount := rfl
@[simp] theorem goto_ticks (s : State) (a : Major) (b : Minor) : (s.goto a b).ticks = s.ticks := rfl
@[simp] theorem goto_tickCount (s : State) (a : Major) (b : Minor) : (s.goto a b).tickCount = s.tickCount := rfl
@[simp] theorem goto_freeCount (s : State) (a : Major) (b : Minor) : (s.goto a b).freeCount = s.freeCount := rfl

@[simp] theorem writeContinue_blocks (s : State) (bs : List Byte) : (s.writeContinue bs).blocks = s.blocks := rfl
@[simp] theorem writeContinue_ccs (s : State) (bs : List Byte) : (s.writeContinue bs).ccs = s.ccs := rfl
@[simp] theorem writeContinue_ops (s : State) (bs : List Byte) : (s.writeContinue bs).ops = s.ops := rfl
@[simp] theorem writeContinue_status (s : State) (bs : List Byte) : (s.writeContinue bs).status = s.status := rfl
@[simp] theorem writeContinue_kind (s : State) (bs : List Byte) : (s.writeContinue bs).kind = s.kind := rfl
@[simp] theorem writeContinue_r1 (s : State) (bs : List Byte) : (s.writeContinue bs).r1 = s.r1 := rfl
@[simp] theorem writeContinue_resp (s : State) (bs : List Byte) : (s.writeContinue bs).resp = s.resp := rfl
@[simp] theorem writeContinue_crcOut (s : State) (bs : List Byte) : (s.writeContinue bs).crcOut = s.crcOut := rfl
@[simp] theorem writeContinue_busy (s : State) (bs : List Byte) : (s.writeContinue bs).busy = s.busy := rfl
@[simp] theorem writeContinue_phase (s : State) (bs : List Byte) : (s.writeContinue bs).phase = s.phase := rfl
@[simp] theorem writeContinue_cs (s : State) (bs : List Byte) : (s.writeContinue bs).cs = .asserted := rfl
@[simp] theorem writeContinue_mosiHold (s : State) (bs : List Byte) : (s.writeContinue bs).mosiHold = s.mosiHold := rfl
@[simp] theorem writeContinue_clkHz (s : State) (bs : List Byte) : (s.writeContinue bs).clkHz = s.clkHz := rfl
@[simp] theorem writeContinue_v2 (s : State) (bs : List Byte) : (s.writeContinue bs).v2 = s.v2 := rfl
@[simp] theorem writeContinue_attempt (s : State) (bs : List Byte) : (s.writeContinue bs).attempt = s.attempt := rfl
@[simp] theorem writeContinue_iter (s : State) (bs : List Byte) : (s.writeContinue bs).iter = s.iter := rfl
@[simp] theorem writeContinue_blkI (s : State) (bs : List Byte) : (s.writeContinue bs).blkI = s.blkI := rfl
@[simp] theorem writeContinue_j (s : State) (bs : List Byte) : (s.writeContinue bs).j = s.j := rfl
@[simp] theorem writeContinue_pay (s : State) (bs : List Byte) : (s.writeContinue bs).pay = s.pay := rfl
@[simp] theorem writeContinue_t0 (s : State) (bs : List Byte) : (s.writeContinue bs).t0 = s.t0 := rfl
@[simp] theorem writeContinue_now (s : State) (bs : List Byte) : (s.writeContinue bs).now = s.now := rfl
@[simp] theorem writeContinue_tok (s : State) (bs : List Byte) : (s.writeContinue bs).tok = s.tok := rfl
@[simp] theorem writeContinue_tokenMissing (s : State) (bs : List Byte) : (s.writeContinue bs).tokenMissing = s.tokenMissing := rfl
@[simp] theorem writeContinue_acc7 (s : State) (bs : List Byte) : (s.writeContinue bs).acc7 = s.acc7 := rfl
@[simp] theorem writeContinue_acc16 (s : State) (bs : List Byte) : (s.writeContinue bs).acc16 = s.acc16 := rfl
@[simp] theorem writeContinue_rxCrc (s : State) (bs : List Byte) : (s.writeContinue bs).rxCrc = s.rxCrc := rfl
@[simp] theorem writeContinue_ocr (s : State) (bs : List Byte) : (s.writeContinue bs).ocr = s.ocr := rfl
@[simp] theorem writeContinue_ccsNew (s : State) (bs : List Byte) : (s.writeContinue bs).ccsNew = s.ccsNew := rfl
@[simp] theorem writeContinue_history (s : State) (bs : List Byte) : (s.writeContinue bs).history = .writeContinue bs :: s.history := rfl
@[simp] theorem writeContinue_mem (s : State) (bs : List Byte) : (s.writeContinue bs).mem = s.mem := rfl
@[simp] theorem writeContinue_k (s : State) (bs : List Byte) : (s.writeContinue bs).k = s.k := rfl
@[simp] theorem writeContinue_rxStage (s : State) (bs : List Byte) : (s.writeContinue bs).rxStage = s.rxStage := rfl
@[simp] theorem writeContinue_requests (s : State) (bs : List Byte) : (s.writeContinue bs).requests = s.requests := rfl
@[simp] theorem writeContinue_card (s : State) (bs : List Byte) : (s.writeContinue bs).card = s.card := rfl
@[simp] theorem writeContinue_cardCount (s : State) (bs : List Byte) : (s.writeContinue bs).cardCount = s.cardCount := rfl
@[simp] theorem writeContinue_ticks (s : State) (bs : List Byte) : (s.writeContinue bs).ticks = s.ticks := rfl
@[simp] theorem writeContinue_tickCount (s : State) (bs : List Byte) : (s.writeContinue bs).tickCount = s.tickCount := rfl
@[simp] theorem writeContinue_freeCount (s : State) (bs : List Byte) : (s.writeContinue bs).freeCount = s.freeCount := rfl

@[simp] theorem readContinue_blocks (s : State) (n : Nat) : (s.readContinue n).blocks = s.blocks := rfl
@[simp] theorem readContinue_ccs (s : State) (n : Nat) : (s.readContinue n).ccs = s.ccs := rfl
@[simp] theorem readContinue_ops (s : State) (n : Nat) : (s.readContinue n).ops = s.ops := rfl
@[simp] theorem readContinue_status (s : State) (n : Nat) : (s.readContinue n).status = s.status := rfl
@[simp] theorem readContinue_kind (s : State) (n : Nat) : (s.readContinue n).kind = s.kind := rfl
@[simp] theorem readContinue_r1 (s : State) (n : Nat) : (s.readContinue n).r1 = s.r1 := rfl
@[simp] theorem readContinue_resp (s : State) (n : Nat) : (s.readContinue n).resp = s.resp := rfl
@[simp] theorem readContinue_crcOut (s : State) (n : Nat) : (s.readContinue n).crcOut = s.crcOut := rfl
@[simp] theorem readContinue_busy (s : State) (n : Nat) : (s.readContinue n).busy = s.busy := rfl
@[simp] theorem readContinue_phase (s : State) (n : Nat) : (s.readContinue n).phase = s.phase := rfl
@[simp] theorem readContinue_cs (s : State) (n : Nat) : (s.readContinue n).cs = .asserted := rfl
@[simp] theorem readContinue_mosiHold (s : State) (n : Nat) : (s.readContinue n).mosiHold = s.mosiHold := rfl
@[simp] theorem readContinue_clkHz (s : State) (n : Nat) : (s.readContinue n).clkHz = s.clkHz := rfl
@[simp] theorem readContinue_v2 (s : State) (n : Nat) : (s.readContinue n).v2 = s.v2 := rfl
@[simp] theorem readContinue_attempt (s : State) (n : Nat) : (s.readContinue n).attempt = s.attempt := rfl
@[simp] theorem readContinue_iter (s : State) (n : Nat) : (s.readContinue n).iter = s.iter := rfl
@[simp] theorem readContinue_blkI (s : State) (n : Nat) : (s.readContinue n).blkI = s.blkI := rfl
@[simp] theorem readContinue_j (s : State) (n : Nat) : (s.readContinue n).j = s.j := rfl
@[simp] theorem readContinue_pay (s : State) (n : Nat) : (s.readContinue n).pay = s.pay := rfl
@[simp] theorem readContinue_t0 (s : State) (n : Nat) : (s.readContinue n).t0 = s.t0 := rfl
@[simp] theorem readContinue_now (s : State) (n : Nat) : (s.readContinue n).now = s.now := rfl
@[simp] theorem readContinue_tok (s : State) (n : Nat) : (s.readContinue n).tok = s.tok := rfl
@[simp] theorem readContinue_tokenMissing (s : State) (n : Nat) : (s.readContinue n).tokenMissing = s.tokenMissing := rfl
@[simp] theorem readContinue_acc7 (s : State) (n : Nat) : (s.readContinue n).acc7 = s.acc7 := rfl
@[simp] theorem readContinue_acc16 (s : State) (n : Nat) : (s.readContinue n).acc16 = s.acc16 := rfl
@[simp] theorem readContinue_rxCrc (s : State) (n : Nat) : (s.readContinue n).rxCrc = s.rxCrc := rfl
@[simp] theorem readContinue_ocr (s : State) (n : Nat) : (s.readContinue n).ocr = s.ocr := rfl
@[simp] theorem readContinue_ccsNew (s : State) (n : Nat) : (s.readContinue n).ccsNew = s.ccsNew := rfl
@[simp] theorem readContinue_history (s : State) (n : Nat) : (s.readContinue n).history = .readContinue (s.incoming n) :: s.history := rfl
@[simp] theorem readContinue_mem (s : State) (n : Nat) : (s.readContinue n).mem = s.mem := rfl
@[simp] theorem readContinue_k (s : State) (n : Nat) : (s.readContinue n).k = s.k := rfl
@[simp] theorem readContinue_rxStage (s : State) (n : Nat) : (s.readContinue n).rxStage = s.rxStage := rfl
@[simp] theorem readContinue_requests (s : State) (n : Nat) : (s.readContinue n).requests = s.requests := rfl
@[simp] theorem readContinue_card (s : State) (n : Nat) : (s.readContinue n).card = (drawBytes n s.card s.cardCount).2.1 := rfl
@[simp] theorem readContinue_cardCount (s : State) (n : Nat) : (s.readContinue n).cardCount = (drawBytes n s.card s.cardCount).2.2 := rfl
@[simp] theorem readContinue_ticks (s : State) (n : Nat) : (s.readContinue n).ticks = s.ticks := rfl
@[simp] theorem readContinue_tickCount (s : State) (n : Nat) : (s.readContinue n).tickCount = s.tickCount := rfl
@[simp] theorem readContinue_freeCount (s : State) (n : Nat) : (s.readContinue n).freeCount = s.freeCount := rfl

@[simp] theorem holdMosi_blocks (s : State) : s.holdMosi.blocks = s.blocks := rfl
@[simp] theorem holdMosi_ccs (s : State) : s.holdMosi.ccs = s.ccs := rfl
@[simp] theorem holdMosi_ops (s : State) : s.holdMosi.ops = s.ops := rfl
@[simp] theorem holdMosi_status (s : State) : s.holdMosi.status = s.status := rfl
@[simp] theorem holdMosi_kind (s : State) : s.holdMosi.kind = s.kind := rfl
@[simp] theorem holdMosi_r1 (s : State) : s.holdMosi.r1 = s.r1 := rfl
@[simp] theorem holdMosi_resp (s : State) : s.holdMosi.resp = s.resp := rfl
@[simp] theorem holdMosi_crcOut (s : State) : s.holdMosi.crcOut = s.crcOut := rfl
@[simp] theorem holdMosi_busy (s : State) : s.holdMosi.busy = s.busy := rfl
@[simp] theorem holdMosi_phase (s : State) : s.holdMosi.phase = s.phase := rfl
@[simp] theorem holdMosi_cs (s : State) : s.holdMosi.cs = s.cs := rfl
@[simp] theorem holdMosi_mosiHold (s : State) : s.holdMosi.mosiHold = .held1 := rfl
@[simp] theorem holdMosi_clkHz (s : State) : s.holdMosi.clkHz = s.clkHz := rfl
@[simp] theorem holdMosi_v2 (s : State) : s.holdMosi.v2 = s.v2 := rfl
@[simp] theorem holdMosi_attempt (s : State) : s.holdMosi.attempt = s.attempt := rfl
@[simp] theorem holdMosi_iter (s : State) : s.holdMosi.iter = s.iter := rfl
@[simp] theorem holdMosi_blkI (s : State) : s.holdMosi.blkI = s.blkI := rfl
@[simp] theorem holdMosi_j (s : State) : s.holdMosi.j = s.j := rfl
@[simp] theorem holdMosi_pay (s : State) : s.holdMosi.pay = s.pay := rfl
@[simp] theorem holdMosi_t0 (s : State) : s.holdMosi.t0 = s.t0 := rfl
@[simp] theorem holdMosi_now (s : State) : s.holdMosi.now = s.now := rfl
@[simp] theorem holdMosi_tok (s : State) : s.holdMosi.tok = s.tok := rfl
@[simp] theorem holdMosi_tokenMissing (s : State) : s.holdMosi.tokenMissing = s.tokenMissing := rfl
@[simp] theorem holdMosi_acc7 (s : State) : s.holdMosi.acc7 = s.acc7 := rfl
@[simp] theorem holdMosi_acc16 (s : State) : s.holdMosi.acc16 = s.acc16 := rfl
@[simp] theorem holdMosi_rxCrc (s : State) : s.holdMosi.rxCrc = s.rxCrc := rfl
@[simp] theorem holdMosi_ocr (s : State) : s.holdMosi.ocr = s.ocr := rfl
@[simp] theorem holdMosi_ccsNew (s : State) : s.holdMosi.ccsNew = s.ccsNew := rfl
@[simp] theorem holdMosi_history (s : State) : s.holdMosi.history = .holdMosi true :: s.history := rfl
@[simp] theorem holdMosi_mem (s : State) : s.holdMosi.mem = s.mem := rfl
@[simp] theorem holdMosi_k (s : State) : s.holdMosi.k = s.k := rfl
@[simp] theorem holdMosi_rxStage (s : State) : s.holdMosi.rxStage = s.rxStage := rfl
@[simp] theorem holdMosi_requests (s : State) : s.holdMosi.requests = s.requests := rfl
@[simp] theorem holdMosi_card (s : State) : s.holdMosi.card = s.card := rfl
@[simp] theorem holdMosi_cardCount (s : State) : s.holdMosi.cardCount = s.cardCount := rfl
@[simp] theorem holdMosi_ticks (s : State) : s.holdMosi.ticks = s.ticks := rfl
@[simp] theorem holdMosi_tickCount (s : State) : s.holdMosi.tickCount = s.tickCount := rfl
@[simp] theorem holdMosi_freeCount (s : State) : s.holdMosi.freeCount = s.freeCount := rfl

@[simp] theorem releaseMosi_blocks (s : State) : s.releaseMosi.blocks = s.blocks := rfl
@[simp] theorem releaseMosi_ccs (s : State) : s.releaseMosi.ccs = s.ccs := rfl
@[simp] theorem releaseMosi_ops (s : State) : s.releaseMosi.ops = s.ops := rfl
@[simp] theorem releaseMosi_status (s : State) : s.releaseMosi.status = s.status := rfl
@[simp] theorem releaseMosi_kind (s : State) : s.releaseMosi.kind = s.kind := rfl
@[simp] theorem releaseMosi_r1 (s : State) : s.releaseMosi.r1 = s.r1 := rfl
@[simp] theorem releaseMosi_resp (s : State) : s.releaseMosi.resp = s.resp := rfl
@[simp] theorem releaseMosi_crcOut (s : State) : s.releaseMosi.crcOut = s.crcOut := rfl
@[simp] theorem releaseMosi_busy (s : State) : s.releaseMosi.busy = s.busy := rfl
@[simp] theorem releaseMosi_phase (s : State) : s.releaseMosi.phase = s.phase := rfl
@[simp] theorem releaseMosi_cs (s : State) : s.releaseMosi.cs = s.cs := rfl
@[simp] theorem releaseMosi_mosiHold (s : State) : s.releaseMosi.mosiHold = .released := rfl
@[simp] theorem releaseMosi_clkHz (s : State) : s.releaseMosi.clkHz = s.clkHz := rfl
@[simp] theorem releaseMosi_v2 (s : State) : s.releaseMosi.v2 = s.v2 := rfl
@[simp] theorem releaseMosi_attempt (s : State) : s.releaseMosi.attempt = s.attempt := rfl
@[simp] theorem releaseMosi_iter (s : State) : s.releaseMosi.iter = s.iter := rfl
@[simp] theorem releaseMosi_blkI (s : State) : s.releaseMosi.blkI = s.blkI := rfl
@[simp] theorem releaseMosi_j (s : State) : s.releaseMosi.j = s.j := rfl
@[simp] theorem releaseMosi_pay (s : State) : s.releaseMosi.pay = s.pay := rfl
@[simp] theorem releaseMosi_t0 (s : State) : s.releaseMosi.t0 = s.t0 := rfl
@[simp] theorem releaseMosi_now (s : State) : s.releaseMosi.now = s.now := rfl
@[simp] theorem releaseMosi_tok (s : State) : s.releaseMosi.tok = s.tok := rfl
@[simp] theorem releaseMosi_tokenMissing (s : State) : s.releaseMosi.tokenMissing = s.tokenMissing := rfl
@[simp] theorem releaseMosi_acc7 (s : State) : s.releaseMosi.acc7 = s.acc7 := rfl
@[simp] theorem releaseMosi_acc16 (s : State) : s.releaseMosi.acc16 = s.acc16 := rfl
@[simp] theorem releaseMosi_rxCrc (s : State) : s.releaseMosi.rxCrc = s.rxCrc := rfl
@[simp] theorem releaseMosi_ocr (s : State) : s.releaseMosi.ocr = s.ocr := rfl
@[simp] theorem releaseMosi_ccsNew (s : State) : s.releaseMosi.ccsNew = s.ccsNew := rfl
@[simp] theorem releaseMosi_history (s : State) : s.releaseMosi.history = .releaseMosi :: s.history := rfl
@[simp] theorem releaseMosi_mem (s : State) : s.releaseMosi.mem = s.mem := rfl
@[simp] theorem releaseMosi_k (s : State) : s.releaseMosi.k = s.k := rfl
@[simp] theorem releaseMosi_rxStage (s : State) : s.releaseMosi.rxStage = s.rxStage := rfl
@[simp] theorem releaseMosi_requests (s : State) : s.releaseMosi.requests = s.requests := rfl
@[simp] theorem releaseMosi_card (s : State) : s.releaseMosi.card = s.card := rfl
@[simp] theorem releaseMosi_cardCount (s : State) : s.releaseMosi.cardCount = s.cardCount := rfl
@[simp] theorem releaseMosi_ticks (s : State) : s.releaseMosi.ticks = s.ticks := rfl
@[simp] theorem releaseMosi_tickCount (s : State) : s.releaseMosi.tickCount = s.tickCount := rfl
@[simp] theorem releaseMosi_freeCount (s : State) : s.releaseMosi.freeCount = s.freeCount := rfl

@[simp] theorem setClock_blocks (s : State) (hz : Nat) : (s.setClock hz).blocks = s.blocks := rfl
@[simp] theorem setClock_ccs (s : State) (hz : Nat) : (s.setClock hz).ccs = s.ccs := rfl
@[simp] theorem setClock_ops (s : State) (hz : Nat) : (s.setClock hz).ops = s.ops := rfl
@[simp] theorem setClock_status (s : State) (hz : Nat) : (s.setClock hz).status = s.status := rfl
@[simp] theorem setClock_kind (s : State) (hz : Nat) : (s.setClock hz).kind = s.kind := rfl
@[simp] theorem setClock_r1 (s : State) (hz : Nat) : (s.setClock hz).r1 = s.r1 := rfl
@[simp] theorem setClock_resp (s : State) (hz : Nat) : (s.setClock hz).resp = s.resp := rfl
@[simp] theorem setClock_crcOut (s : State) (hz : Nat) : (s.setClock hz).crcOut = s.crcOut := rfl
@[simp] theorem setClock_busy (s : State) (hz : Nat) : (s.setClock hz).busy = s.busy := rfl
@[simp] theorem setClock_phase (s : State) (hz : Nat) : (s.setClock hz).phase = s.phase := rfl
@[simp] theorem setClock_cs (s : State) (hz : Nat) : (s.setClock hz).cs = s.cs := rfl
@[simp] theorem setClock_mosiHold (s : State) (hz : Nat) : (s.setClock hz).mosiHold = s.mosiHold := rfl
@[simp] theorem setClock_clkHz (s : State) (hz : Nat) : (s.setClock hz).clkHz = hz := rfl
@[simp] theorem setClock_v2 (s : State) (hz : Nat) : (s.setClock hz).v2 = s.v2 := rfl
@[simp] theorem setClock_attempt (s : State) (hz : Nat) : (s.setClock hz).attempt = s.attempt := rfl
@[simp] theorem setClock_iter (s : State) (hz : Nat) : (s.setClock hz).iter = s.iter := rfl
@[simp] theorem setClock_blkI (s : State) (hz : Nat) : (s.setClock hz).blkI = s.blkI := rfl
@[simp] theorem setClock_j (s : State) (hz : Nat) : (s.setClock hz).j = s.j := rfl
@[simp] theorem setClock_pay (s : State) (hz : Nat) : (s.setClock hz).pay = s.pay := rfl
@[simp] theorem setClock_t0 (s : State) (hz : Nat) : (s.setClock hz).t0 = s.t0 := rfl
@[simp] theorem setClock_now (s : State) (hz : Nat) : (s.setClock hz).now = s.now := rfl
@[simp] theorem setClock_tok (s : State) (hz : Nat) : (s.setClock hz).tok = s.tok := rfl
@[simp] theorem setClock_tokenMissing (s : State) (hz : Nat) : (s.setClock hz).tokenMissing = s.tokenMissing := rfl
@[simp] theorem setClock_acc7 (s : State) (hz : Nat) : (s.setClock hz).acc7 = s.acc7 := rfl
@[simp] theorem setClock_acc16 (s : State) (hz : Nat) : (s.setClock hz).acc16 = s.acc16 := rfl
@[simp] theorem setClock_rxCrc (s : State) (hz : Nat) : (s.setClock hz).rxCrc = s.rxCrc := rfl
@[simp] theorem setClock_ocr (s : State) (hz : Nat) : (s.setClock hz).ocr = s.ocr := rfl
@[simp] theorem setClock_ccsNew (s : State) (hz : Nat) : (s.setClock hz).ccsNew = s.ccsNew := rfl
@[simp] theorem setClock_history (s : State) (hz : Nat) : (s.setClock hz).history = .setClock hz :: s.history := rfl
@[simp] theorem setClock_mem (s : State) (hz : Nat) : (s.setClock hz).mem = s.mem := rfl
@[simp] theorem setClock_k (s : State) (hz : Nat) : (s.setClock hz).k = s.k := rfl
@[simp] theorem setClock_rxStage (s : State) (hz : Nat) : (s.setClock hz).rxStage = s.rxStage := rfl
@[simp] theorem setClock_requests (s : State) (hz : Nat) : (s.setClock hz).requests = s.requests := rfl
@[simp] theorem setClock_card (s : State) (hz : Nat) : (s.setClock hz).card = s.card := rfl
@[simp] theorem setClock_cardCount (s : State) (hz : Nat) : (s.setClock hz).cardCount = s.cardCount := rfl
@[simp] theorem setClock_ticks (s : State) (hz : Nat) : (s.setClock hz).ticks = s.ticks := rfl
@[simp] theorem setClock_tickCount (s : State) (hz : Nat) : (s.setClock hz).tickCount = s.tickCount := rfl
@[simp] theorem setClock_freeCount (s : State) (hz : Nat) : (s.setClock hz).freeCount = s.freeCount := rfl

@[simp] theorem toggle_blocks (s : State) (n : Nat) : (s.toggle n).blocks = s.blocks := rfl
@[simp] theorem toggle_ccs (s : State) (n : Nat) : (s.toggle n).ccs = s.ccs := rfl
@[simp] theorem toggle_ops (s : State) (n : Nat) : (s.toggle n).ops = s.ops := rfl
@[simp] theorem toggle_status (s : State) (n : Nat) : (s.toggle n).status = s.status := rfl
@[simp] theorem toggle_kind (s : State) (n : Nat) : (s.toggle n).kind = s.kind := rfl
@[simp] theorem toggle_r1 (s : State) (n : Nat) : (s.toggle n).r1 = s.r1 := rfl
@[simp] theorem toggle_resp (s : State) (n : Nat) : (s.toggle n).resp = s.resp := rfl
@[simp] theorem toggle_crcOut (s : State) (n : Nat) : (s.toggle n).crcOut = s.crcOut := rfl
@[simp] theorem toggle_busy (s : State) (n : Nat) : (s.toggle n).busy = s.busy := rfl
@[simp] theorem toggle_phase (s : State) (n : Nat) : (s.toggle n).phase = s.phase := rfl
@[simp] theorem toggle_cs (s : State) (n : Nat) : (s.toggle n).cs = .deasserted := rfl
@[simp] theorem toggle_mosiHold (s : State) (n : Nat) : (s.toggle n).mosiHold = s.mosiHold := rfl
@[simp] theorem toggle_clkHz (s : State) (n : Nat) : (s.toggle n).clkHz = s.clkHz := rfl
@[simp] theorem toggle_v2 (s : State) (n : Nat) : (s.toggle n).v2 = s.v2 := rfl
@[simp] theorem toggle_attempt (s : State) (n : Nat) : (s.toggle n).attempt = s.attempt := rfl
@[simp] theorem toggle_iter (s : State) (n : Nat) : (s.toggle n).iter = s.iter := rfl
@[simp] theorem toggle_blkI (s : State) (n : Nat) : (s.toggle n).blkI = s.blkI := rfl
@[simp] theorem toggle_j (s : State) (n : Nat) : (s.toggle n).j = s.j := rfl
@[simp] theorem toggle_pay (s : State) (n : Nat) : (s.toggle n).pay = s.pay := rfl
@[simp] theorem toggle_t0 (s : State) (n : Nat) : (s.toggle n).t0 = s.t0 := rfl
@[simp] theorem toggle_now (s : State) (n : Nat) : (s.toggle n).now = s.now := rfl
@[simp] theorem toggle_tok (s : State) (n : Nat) : (s.toggle n).tok = s.tok := rfl
@[simp] theorem toggle_tokenMissing (s : State) (n : Nat) : (s.toggle n).tokenMissing = s.tokenMissing := rfl
@[simp] theorem toggle_acc7 (s : State) (n : Nat) : (s.toggle n).acc7 = s.acc7 := rfl
@[simp] theorem toggle_acc16 (s : State) (n : Nat) : (s.toggle n).acc16 = s.acc16 := rfl
@[simp] theorem toggle_rxCrc (s : State) (n : Nat) : (s.toggle n).rxCrc = s.rxCrc := rfl
@[simp] theorem toggle_ocr (s : State) (n : Nat) : (s.toggle n).ocr = s.ocr := rfl
@[simp] theorem toggle_ccsNew (s : State) (n : Nat) : (s.toggle n).ccsNew = s.ccsNew := rfl
@[simp] theorem toggle_history (s : State) (n : Nat) : (s.toggle n).history = .toggle n :: s.history := rfl
@[simp] theorem toggle_mem (s : State) (n : Nat) : (s.toggle n).mem = s.mem := rfl
@[simp] theorem toggle_k (s : State) (n : Nat) : (s.toggle n).k = s.k := rfl
@[simp] theorem toggle_rxStage (s : State) (n : Nat) : (s.toggle n).rxStage = s.rxStage := rfl
@[simp] theorem toggle_requests (s : State) (n : Nat) : (s.toggle n).requests = s.requests := rfl
@[simp] theorem toggle_card (s : State) (n : Nat) : (s.toggle n).card = s.card := rfl
@[simp] theorem toggle_cardCount (s : State) (n : Nat) : (s.toggle n).cardCount = s.cardCount := rfl
@[simp] theorem toggle_ticks (s : State) (n : Nat) : (s.toggle n).ticks = s.ticks := rfl
@[simp] theorem toggle_tickCount (s : State) (n : Nat) : (s.toggle n).tickCount = s.tickCount := rfl
@[simp] theorem toggle_freeCount (s : State) (n : Nat) : (s.toggle n).freeCount = s.freeCount := rfl

@[simp] theorem readTick_blocks (s : State) : s.readTick.blocks = s.blocks := rfl
@[simp] theorem readTick_ccs (s : State) : s.readTick.ccs = s.ccs := rfl
@[simp] theorem readTick_ops (s : State) : s.readTick.ops = s.ops := rfl
@[simp] theorem readTick_status (s : State) : s.readTick.status = s.status := rfl
@[simp] theorem readTick_kind (s : State) : s.readTick.kind = s.kind := rfl
@[simp] theorem readTick_r1 (s : State) : s.readTick.r1 = s.r1 := rfl
@[simp] theorem readTick_resp (s : State) : s.readTick.resp = s.resp := rfl
@[simp] theorem readTick_crcOut (s : State) : s.readTick.crcOut = s.crcOut := rfl
@[simp] theorem readTick_busy (s : State) : s.readTick.busy = s.busy := rfl
@[simp] theorem readTick_phase (s : State) : s.readTick.phase = s.phase := rfl
@[simp] theorem readTick_cs (s : State) : s.readTick.cs = s.cs := rfl
@[simp] theorem readTick_mosiHold (s : State) : s.readTick.mosiHold = s.mosiHold := rfl
@[simp] theorem readTick_clkHz (s : State) : s.readTick.clkHz = s.clkHz := rfl
@[simp] theorem readTick_v2 (s : State) : s.readTick.v2 = s.v2 := rfl
@[simp] theorem readTick_attempt (s : State) : s.readTick.attempt = s.attempt := rfl
@[simp] theorem readTick_iter (s : State) : s.readTick.iter = s.iter := rfl
@[simp] theorem readTick_blkI (s : State) : s.readTick.blkI = s.blkI := rfl
@[simp] theorem readTick_j (s : State) : s.readTick.j = s.j := rfl
@[simp] theorem readTick_pay (s : State) : s.readTick.pay = s.pay := rfl
@[simp] theorem readTick_t0 (s : State) : s.readTick.t0 = s.t0 := rfl
@[simp] theorem readTick_now (s : State) : s.readTick.now = s.now := rfl
@[simp] theorem readTick_tok (s : State) : s.readTick.tok = s.tok := rfl
@[simp] theorem readTick_tokenMissing (s : State) : s.readTick.tokenMissing = s.tokenMissing := rfl
@[simp] theorem readTick_acc7 (s : State) : s.readTick.acc7 = s.acc7 := rfl
@[simp] theorem readTick_acc16 (s : State) : s.readTick.acc16 = s.acc16 := rfl
@[simp] theorem readTick_rxCrc (s : State) : s.readTick.rxCrc = s.rxCrc := rfl
@[simp] theorem readTick_ocr (s : State) : s.readTick.ocr = s.ocr := rfl
@[simp] theorem readTick_ccsNew (s : State) : s.readTick.ccsNew = s.ccsNew := rfl
@[simp] theorem readTick_history (s : State) : s.readTick.history = .tick s.nextTick :: s.history := rfl
@[simp] theorem readTick_mem (s : State) : s.readTick.mem = s.mem := rfl
@[simp] theorem readTick_k (s : State) : s.readTick.k = s.k := rfl
@[simp] theorem readTick_rxStage (s : State) : s.readTick.rxStage = s.rxStage := rfl
@[simp] theorem readTick_requests (s : State) : s.readTick.requests = s.requests := rfl
@[simp] theorem readTick_card (s : State) : s.readTick.card = s.card := rfl
@[simp] theorem readTick_cardCount (s : State) : s.readTick.cardCount = s.cardCount := rfl
@[simp] theorem readTick_ticks (s : State) : s.readTick.ticks = s.ticks.tail := rfl
@[simp] theorem readTick_tickCount (s : State) : s.readTick.tickCount = if s.ticks.isEmpty then s.tickCount + 1 else s.tickCount := rfl
@[simp] theorem readTick_freeCount (s : State) : s.readTick.freeCount = s.freeCount := rfl

@[simp] theorem memRead_blocks (s : State) (off : Nat) : (s.memRead off).blocks = s.blocks := rfl
@[simp] theorem memRead_ccs (s : State) (off : Nat) : (s.memRead off).ccs = s.ccs := rfl
@[simp] theorem memRead_ops (s : State) (off : Nat) : (s.memRead off).ops = s.ops := rfl
@[simp] theorem memRead_status (s : State) (off : Nat) : (s.memRead off).status = s.status := rfl
@[simp] theorem memRead_kind (s : State) (off : Nat) : (s.memRead off).kind = s.kind := rfl
@[simp] theorem memRead_r1 (s : State) (off : Nat) : (s.memRead off).r1 = s.r1 := rfl
@[simp] theorem memRead_resp (s : State) (off : Nat) : (s.memRead off).resp = s.resp := rfl
@[simp] theorem memRead_crcOut (s : State) (off : Nat) : (s.memRead off).crcOut = s.crcOut := rfl
@[simp] theorem memRead_busy (s : State) (off : Nat) : (s.memRead off).busy = s.busy := rfl
@[simp] theorem memRead_phase (s : State) (off : Nat) : (s.memRead off).phase = s.phase := rfl
@[simp] theorem memRead_cs (s : State) (off : Nat) : (s.memRead off).cs = s.cs := rfl
@[simp] theorem memRead_mosiHold (s : State) (off : Nat) : (s.memRead off).mosiHold = s.mosiHold := rfl
@[simp] theorem memRead_clkHz (s : State) (off : Nat) : (s.memRead off).clkHz = s.clkHz := rfl
@[simp] theorem memRead_v2 (s : State) (off : Nat) : (s.memRead off).v2 = s.v2 := rfl
@[simp] theorem memRead_attempt (s : State) (off : Nat) : (s.memRead off).attempt = s.attempt := rfl
@[simp] theorem memRead_iter (s : State) (off : Nat) : (s.memRead off).iter = s.iter := rfl
@[simp] theorem memRead_blkI (s : State) (off : Nat) : (s.memRead off).blkI = s.blkI := rfl
@[simp] theorem memRead_j (s : State) (off : Nat) : (s.memRead off).j = s.j := rfl
@[simp] theorem memRead_pay (s : State) (off : Nat) : (s.memRead off).pay = s.pay := rfl
@[simp] theorem memRead_t0 (s : State) (off : Nat) : (s.memRead off).t0 = s.t0 := rfl
@[simp] theorem memRead_now (s : State) (off : Nat) : (s.memRead off).now = s.now := rfl
@[simp] theorem memRead_tok (s : State) (off : Nat) : (s.memRead off).tok = s.tok := rfl
@[simp] theorem memRead_tokenMissing (s : State) (off : Nat) : (s.memRead off).tokenMissing = s.tokenMissing := rfl
@[simp] theorem memRead_acc7 (s : State) (off : Nat) : (s.memRead off).acc7 = s.acc7 := rfl
@[simp] theorem memRead_acc16 (s : State) (off : Nat) : (s.memRead off).acc16 = s.acc16 := rfl
@[simp] theorem memRead_rxCrc (s : State) (off : Nat) : (s.memRead off).rxCrc = s.rxCrc := rfl
@[simp] theorem memRead_ocr (s : State) (off : Nat) : (s.memRead off).ocr = s.ocr := rfl
@[simp] theorem memRead_ccsNew (s : State) (off : Nat) : (s.memRead off).ccsNew = s.ccsNew := rfl
@[simp] theorem memRead_history (s : State) (off : Nat) : (s.memRead off).history = .memRead s.ops.src off (s.srcByte off) :: s.history := rfl
@[simp] theorem memRead_mem (s : State) (off : Nat) : (s.memRead off).mem = s.mem := rfl
@[simp] theorem memRead_k (s : State) (off : Nat) : (s.memRead off).k = s.k := rfl
@[simp] theorem memRead_rxStage (s : State) (off : Nat) : (s.memRead off).rxStage = s.rxStage := rfl
@[simp] theorem memRead_requests (s : State) (off : Nat) : (s.memRead off).requests = s.requests := rfl
@[simp] theorem memRead_card (s : State) (off : Nat) : (s.memRead off).card = s.card := rfl
@[simp] theorem memRead_cardCount (s : State) (off : Nat) : (s.memRead off).cardCount = s.cardCount := rfl
@[simp] theorem memRead_ticks (s : State) (off : Nat) : (s.memRead off).ticks = s.ticks := rfl
@[simp] theorem memRead_tickCount (s : State) (off : Nat) : (s.memRead off).tickCount = s.tickCount := rfl
@[simp] theorem memRead_freeCount (s : State) (off : Nat) : (s.memRead off).freeCount = s.freeCount := rfl

@[simp] theorem memWrite_blocks (s : State) (off : Nat) (v : Byte) : (s.memWrite off v).blocks = s.blocks := rfl
@[simp] theorem memWrite_ccs (s : State) (off : Nat) (v : Byte) : (s.memWrite off v).ccs = s.ccs := rfl
@[simp] theorem memWrite_ops (s : State) (off : Nat) (v : Byte) : (s.memWrite off v).ops = s.ops := rfl
@[simp] theorem memWrite_status (s : State) (off : Nat) (v : Byte) : (s.memWrite off v).status = s.status := rfl
@[simp] theorem memWrite_kind (s : State) (off : Nat) (v : Byte) : (s.memWrite off v).kind = s.kind := rfl
@[simp] theorem memWrite_r1 (s : State) (off : Nat) (v : Byte) : (s.memWrite off v).r1 = s.r1 := rfl
@[simp] theorem memWrite_resp (s : State) (off : Nat) (v : Byte) : (s.memWrite off v).resp = s.resp := rfl
@[simp] theorem memWrite_crcOut (s : State) (off : Nat) (v : Byte) : (s.memWrite off v).crcOut = s.crcOut := rfl
@[simp] theorem memWrite_busy (s : State) (off : Nat) (v : Byte) : (s.memWrite off v).busy = s.busy := rfl
@[simp] theorem memWrite_phase (s : State) (off : Nat) (v : Byte) : (s.memWrite off v).phase = s.phase := rfl
@[simp] theorem memWrite_cs (s : State) (off : Nat) (v : Byte) : (s.memWrite off v).cs = s.cs := rfl
@[simp] theorem memWrite_mosiHold (s : State) (off : Nat) (v : Byte) : (s.memWrite off v).mosiHold = s.mosiHold := rfl
@[simp] theorem memWrite_clkHz (s : State) (off : Nat) (v : Byte) : (s.memWrite off v).clkHz = s.clkHz := rfl
@[simp] theorem memWrite_v2 (s : State) (off : Nat) (v : Byte) : (s.memWrite off v).v2 = s.v2 := rfl
@[simp] theorem memWrite_attempt (s : State) (off : Nat) (v : Byte) : (s.memWrite off v).attempt = s.attempt := rfl
@[simp] theorem memWrite_iter (s : State) (off : Nat) (v : Byte) : (s.memWrite off v).iter = s.iter := rfl
@[simp] theorem memWrite_blkI (s : State) (off : Nat) (v : Byte) : (s.memWrite off v).blkI = s.blkI := rfl
@[simp] theorem memWrite_j (s : State) (off : Nat) (v : Byte) : (s.memWrite off v).j = s.j := rfl
@[simp] theorem memWrite_pay (s : State) (off : Nat) (v : Byte) : (s.memWrite off v).pay = s.pay := rfl
@[simp] theorem memWrite_t0 (s : State) (off : Nat) (v : Byte) : (s.memWrite off v).t0 = s.t0 := rfl
@[simp] theorem memWrite_now (s : State) (off : Nat) (v : Byte) : (s.memWrite off v).now = s.now := rfl
@[simp] theorem memWrite_tok (s : State) (off : Nat) (v : Byte) : (s.memWrite off v).tok = s.tok := rfl
@[simp] theorem memWrite_tokenMissing (s : State) (off : Nat) (v : Byte) : (s.memWrite off v).tokenMissing = s.tokenMissing := rfl
@[simp] theorem memWrite_acc7 (s : State) (off : Nat) (v : Byte) : (s.memWrite off v).acc7 = s.acc7 := rfl
@[simp] theorem memWrite_acc16 (s : State) (off : Nat) (v : Byte) : (s.memWrite off v).acc16 = s.acc16 := rfl
@[simp] theorem memWrite_rxCrc (s : State) (off : Nat) (v : Byte) : (s.memWrite off v).rxCrc = s.rxCrc := rfl
@[simp] theorem memWrite_ocr (s : State) (off : Nat) (v : Byte) : (s.memWrite off v).ocr = s.ocr := rfl
@[simp] theorem memWrite_ccsNew (s : State) (off : Nat) (v : Byte) : (s.memWrite off v).ccsNew = s.ccsNew := rfl
@[simp] theorem memWrite_history (s : State) (off : Nat) (v : Byte) : (s.memWrite off v).history = .memWrite s.ops.buf off v :: s.history := rfl
@[simp] theorem memWrite_mem (s : State) (off : Nat) (v : Byte) : (s.memWrite off v).mem = s.mem.write (address s.ops.buf off) v := rfl
@[simp] theorem memWrite_k (s : State) (off : Nat) (v : Byte) : (s.memWrite off v).k = s.k := rfl
@[simp] theorem memWrite_rxStage (s : State) (off : Nat) (v : Byte) : (s.memWrite off v).rxStage = s.rxStage := rfl
@[simp] theorem memWrite_requests (s : State) (off : Nat) (v : Byte) : (s.memWrite off v).requests = s.requests := rfl
@[simp] theorem memWrite_card (s : State) (off : Nat) (v : Byte) : (s.memWrite off v).card = s.card := rfl
@[simp] theorem memWrite_cardCount (s : State) (off : Nat) (v : Byte) : (s.memWrite off v).cardCount = s.cardCount := rfl
@[simp] theorem memWrite_ticks (s : State) (off : Nat) (v : Byte) : (s.memWrite off v).ticks = s.ticks := rfl
@[simp] theorem memWrite_tickCount (s : State) (off : Nat) (v : Byte) : (s.memWrite off v).tickCount = s.tickCount := rfl
@[simp] theorem memWrite_freeCount (s : State) (off : Nat) (v : Byte) : (s.memWrite off v).freeCount = s.freeCount := rfl

@[simp] theorem respond_blocks (s : State) (a : Kind) (b : Byte) : (s.respond a b).blocks = s.blocks := rfl
@[simp] theorem respond_ccs (s : State) (a : Kind) (b : Byte) : (s.respond a b).ccs = s.ccs := rfl
@[simp] theorem respond_ops (s : State) (a : Kind) (b : Byte) : (s.respond a b).ops = s.ops := rfl
@[simp] theorem respond_status (s : State) (a : Kind) (b : Byte) : (s.respond a b).status = b := rfl
@[simp] theorem respond_kind (s : State) (a : Kind) (b : Byte) : (s.respond a b).kind = a := rfl
@[simp] theorem respond_r1 (s : State) (a : Kind) (b : Byte) : (s.respond a b).r1 = s.r1 := rfl
@[simp] theorem respond_resp (s : State) (a : Kind) (b : Byte) : (s.respond a b).resp = s.resp := rfl
@[simp] theorem respond_crcOut (s : State) (a : Kind) (b : Byte) : (s.respond a b).crcOut = s.crcOut := rfl
@[simp] theorem respond_busy (s : State) (a : Kind) (b : Byte) : (s.respond a b).busy = false := rfl
@[simp] theorem respond_phase (s : State) (a : Kind) (b : Byte) : (s.respond a b).phase = Phase.rest := rfl
@[simp] theorem respond_cs (s : State) (a : Kind) (b : Byte) : (s.respond a b).cs = s.cs := rfl
@[simp] theorem respond_mosiHold (s : State) (a : Kind) (b : Byte) : (s.respond a b).mosiHold = s.mosiHold := rfl
@[simp] theorem respond_clkHz (s : State) (a : Kind) (b : Byte) : (s.respond a b).clkHz = s.clkHz := rfl
@[simp] theorem respond_v2 (s : State) (a : Kind) (b : Byte) : (s.respond a b).v2 = s.v2 := rfl
@[simp] theorem respond_attempt (s : State) (a : Kind) (b : Byte) : (s.respond a b).attempt = s.attempt := rfl
@[simp] theorem respond_iter (s : State) (a : Kind) (b : Byte) : (s.respond a b).iter = s.iter := rfl
@[simp] theorem respond_blkI (s : State) (a : Kind) (b : Byte) : (s.respond a b).blkI = s.blkI := rfl
@[simp] theorem respond_j (s : State) (a : Kind) (b : Byte) : (s.respond a b).j = s.j := rfl
@[simp] theorem respond_pay (s : State) (a : Kind) (b : Byte) : (s.respond a b).pay = s.pay := rfl
@[simp] theorem respond_t0 (s : State) (a : Kind) (b : Byte) : (s.respond a b).t0 = s.t0 := rfl
@[simp] theorem respond_now (s : State) (a : Kind) (b : Byte) : (s.respond a b).now = s.now := rfl
@[simp] theorem respond_tok (s : State) (a : Kind) (b : Byte) : (s.respond a b).tok = s.tok := rfl
@[simp] theorem respond_tokenMissing (s : State) (a : Kind) (b : Byte) : (s.respond a b).tokenMissing = s.tokenMissing := rfl
@[simp] theorem respond_acc7 (s : State) (a : Kind) (b : Byte) : (s.respond a b).acc7 = s.acc7 := rfl
@[simp] theorem respond_acc16 (s : State) (a : Kind) (b : Byte) : (s.respond a b).acc16 = s.acc16 := rfl
@[simp] theorem respond_rxCrc (s : State) (a : Kind) (b : Byte) : (s.respond a b).rxCrc = s.rxCrc := rfl
@[simp] theorem respond_ocr (s : State) (a : Kind) (b : Byte) : (s.respond a b).ocr = s.ocr := rfl
@[simp] theorem respond_ccsNew (s : State) (a : Kind) (b : Byte) : (s.respond a b).ccsNew = s.ccsNew := rfl
@[simp] theorem respond_history (s : State) (a : Kind) (b : Byte) : (s.respond a b).history = .response a b :: s.history := rfl
@[simp] theorem respond_mem (s : State) (a : Kind) (b : Byte) : (s.respond a b).mem = s.mem := rfl
@[simp] theorem respond_k (s : State) (a : Kind) (b : Byte) : (s.respond a b).k = s.k := rfl
@[simp] theorem respond_rxStage (s : State) (a : Kind) (b : Byte) : (s.respond a b).rxStage = s.rxStage := rfl
@[simp] theorem respond_requests (s : State) (a : Kind) (b : Byte) : (s.respond a b).requests = s.requests := rfl
@[simp] theorem respond_card (s : State) (a : Kind) (b : Byte) : (s.respond a b).card = s.card := rfl
@[simp] theorem respond_cardCount (s : State) (a : Kind) (b : Byte) : (s.respond a b).cardCount = s.cardCount := rfl
@[simp] theorem respond_ticks (s : State) (a : Kind) (b : Byte) : (s.respond a b).ticks = s.ticks := rfl
@[simp] theorem respond_tickCount (s : State) (a : Kind) (b : Byte) : (s.respond a b).tickCount = s.tickCount := rfl
@[simp] theorem respond_freeCount (s : State) (a : Kind) (b : Byte) : (s.respond a b).freeCount = s.freeCount := rfl

@[simp] theorem callWithResult_blocks (s : State) (a : Major) : (s.callWithResult a).blocks = s.blocks := rfl
@[simp] theorem callWithResult_ccs (s : State) (a : Major) : (s.callWithResult a).ccs = s.ccs := rfl
@[simp] theorem callWithResult_ops (s : State) (a : Major) : (s.callWithResult a).ops = s.ops := rfl
@[simp] theorem callWithResult_status (s : State) (a : Major) : (s.callWithResult a).status = s.status := rfl
@[simp] theorem callWithResult_kind (s : State) (a : Major) : (s.callWithResult a).kind = s.kind := rfl
@[simp] theorem callWithResult_r1 (s : State) (a : Major) : (s.callWithResult a).r1 = s.r1 := rfl
@[simp] theorem callWithResult_resp (s : State) (a : Major) : (s.callWithResult a).resp = s.resp := rfl
@[simp] theorem callWithResult_crcOut (s : State) (a : Major) : (s.callWithResult a).crcOut = s.crcOut := rfl
@[simp] theorem callWithResult_busy (s : State) (a : Major) : (s.callWithResult a).busy = s.busy := rfl
@[simp] theorem callWithResult_phase (s : State) (a : Major) : (s.callWithResult a).phase = ⟨a, .t1⟩ := rfl
@[simp] theorem callWithResult_cs (s : State) (a : Major) : (s.callWithResult a).cs = s.cs := rfl
@[simp] theorem callWithResult_mosiHold (s : State) (a : Major) : (s.callWithResult a).mosiHold = s.mosiHold := rfl
@[simp] theorem callWithResult_clkHz (s : State) (a : Major) : (s.callWithResult a).clkHz = s.clkHz := rfl
@[simp] theorem callWithResult_v2 (s : State) (a : Major) : (s.callWithResult a).v2 = s.v2 := rfl
@[simp] theorem callWithResult_attempt (s : State) (a : Major) : (s.callWithResult a).attempt = s.attempt := rfl
@[simp] theorem callWithResult_iter (s : State) (a : Major) : (s.callWithResult a).iter = s.iter := rfl
@[simp] theorem callWithResult_blkI (s : State) (a : Major) : (s.callWithResult a).blkI = s.blkI := rfl
@[simp] theorem callWithResult_j (s : State) (a : Major) : (s.callWithResult a).j = s.j := rfl
@[simp] theorem callWithResult_pay (s : State) (a : Major) : (s.callWithResult a).pay = s.pay := rfl
@[simp] theorem callWithResult_t0 (s : State) (a : Major) : (s.callWithResult a).t0 = s.t0 := rfl
@[simp] theorem callWithResult_now (s : State) (a : Major) : (s.callWithResult a).now = s.now := rfl
@[simp] theorem callWithResult_tok (s : State) (a : Major) : (s.callWithResult a).tok = s.tok := rfl
@[simp] theorem callWithResult_tokenMissing (s : State) (a : Major) : (s.callWithResult a).tokenMissing = false := rfl
@[simp] theorem callWithResult_acc7 (s : State) (a : Major) : (s.callWithResult a).acc7 = s.acc7 := rfl
@[simp] theorem callWithResult_acc16 (s : State) (a : Major) : (s.callWithResult a).acc16 = s.acc16 := rfl
@[simp] theorem callWithResult_rxCrc (s : State) (a : Major) : (s.callWithResult a).rxCrc = s.rxCrc := rfl
@[simp] theorem callWithResult_ocr (s : State) (a : Major) : (s.callWithResult a).ocr = s.ocr := rfl
@[simp] theorem callWithResult_ccsNew (s : State) (a : Major) : (s.callWithResult a).ccsNew = s.ccsNew := rfl
@[simp] theorem callWithResult_history (s : State) (a : Major) : (s.callWithResult a).history = s.history := rfl
@[simp] theorem callWithResult_mem (s : State) (a : Major) : (s.callWithResult a).mem = s.mem := rfl
@[simp] theorem callWithResult_k (s : State) (a : Major) : (s.callWithResult a).k = s.k := rfl
@[simp] theorem callWithResult_rxStage (s : State) (a : Major) : (s.callWithResult a).rxStage = s.rxStage := rfl
@[simp] theorem callWithResult_requests (s : State) (a : Major) : (s.callWithResult a).requests = s.requests := rfl
@[simp] theorem callWithResult_card (s : State) (a : Major) : (s.callWithResult a).card = s.card := rfl
@[simp] theorem callWithResult_cardCount (s : State) (a : Major) : (s.callWithResult a).cardCount = s.cardCount := rfl
@[simp] theorem callWithResult_ticks (s : State) (a : Major) : (s.callWithResult a).ticks = s.ticks := rfl
@[simp] theorem callWithResult_tickCount (s : State) (a : Major) : (s.callWithResult a).tickCount = s.tickCount := rfl
@[simp] theorem callWithResult_freeCount (s : State) (a : Major) : (s.callWithResult a).freeCount = s.freeCount := rfl

@[simp] theorem beginTransaction_blocks (s : State) (i : BitVec 6) (a : Word) : (s.beginTransaction i a).blocks = s.blocks := rfl
@[simp] theorem beginTransaction_ccs (s : State) (i : BitVec 6) (a : Word) : (s.beginTransaction i a).ccs = s.ccs := rfl
@[simp] theorem beginTransaction_ops (s : State) (i : BitVec 6) (a : Word) : (s.beginTransaction i a).ops = s.ops := rfl
@[simp] theorem beginTransaction_status (s : State) (i : BitVec 6) (a : Word) : (s.beginTransaction i a).status = s.status := rfl
@[simp] theorem beginTransaction_kind (s : State) (i : BitVec 6) (a : Word) : (s.beginTransaction i a).kind = s.kind := rfl
@[simp] theorem beginTransaction_r1 (s : State) (i : BitVec 6) (a : Word) : (s.beginTransaction i a).r1 = s.r1 := rfl
@[simp] theorem beginTransaction_resp (s : State) (i : BitVec 6) (a : Word) : (s.beginTransaction i a).resp = s.resp := rfl
@[simp] theorem beginTransaction_crcOut (s : State) (i : BitVec 6) (a : Word) : (s.beginTransaction i a).crcOut = s.crcOut := rfl
@[simp] theorem beginTransaction_busy (s : State) (i : BitVec 6) (a : Word) : (s.beginTransaction i a).busy = s.busy := rfl
@[simp] theorem beginTransaction_phase (s : State) (i : BitVec 6) (a : Word) : (s.beginTransaction i a).phase = ⟨s.phase.major, .t2⟩ := rfl
@[simp] theorem beginTransaction_cs (s : State) (i : BitVec 6) (a : Word) : (s.beginTransaction i a).cs = .asserted := rfl
@[simp] theorem beginTransaction_mosiHold (s : State) (i : BitVec 6) (a : Word) : (s.beginTransaction i a).mosiHold = s.mosiHold := rfl
@[simp] theorem beginTransaction_clkHz (s : State) (i : BitVec 6) (a : Word) : (s.beginTransaction i a).clkHz = s.clkHz := rfl
@[simp] theorem beginTransaction_v2 (s : State) (i : BitVec 6) (a : Word) : (s.beginTransaction i a).v2 = s.v2 := rfl
@[simp] theorem beginTransaction_attempt (s : State) (i : BitVec 6) (a : Word) : (s.beginTransaction i a).attempt = 0 := rfl
@[simp] theorem beginTransaction_iter (s : State) (i : BitVec 6) (a : Word) : (s.beginTransaction i a).iter = s.iter := rfl
@[simp] theorem beginTransaction_blkI (s : State) (i : BitVec 6) (a : Word) : (s.beginTransaction i a).blkI = s.blkI := rfl
@[simp] theorem beginTransaction_j (s : State) (i : BitVec 6) (a : Word) : (s.beginTransaction i a).j = s.j := rfl
@[simp] theorem beginTransaction_pay (s : State) (i : BitVec 6) (a : Word) : (s.beginTransaction i a).pay = s.pay := rfl
@[simp] theorem beginTransaction_t0 (s : State) (i : BitVec 6) (a : Word) : (s.beginTransaction i a).t0 = s.t0 := rfl
@[simp] theorem beginTransaction_now (s : State) (i : BitVec 6) (a : Word) : (s.beginTransaction i a).now = s.now := rfl
@[simp] theorem beginTransaction_tok (s : State) (i : BitVec 6) (a : Word) : (s.beginTransaction i a).tok = s.tok := rfl
@[simp] theorem beginTransaction_tokenMissing (s : State) (i : BitVec 6) (a : Word) : (s.beginTransaction i a).tokenMissing = s.tokenMissing := rfl
@[simp] theorem beginTransaction_acc7 (s : State) (i : BitVec 6) (a : Word) : (s.beginTransaction i a).acc7 = s.acc7 := rfl
@[simp] theorem beginTransaction_acc16 (s : State) (i : BitVec 6) (a : Word) : (s.beginTransaction i a).acc16 = s.acc16 := rfl
@[simp] theorem beginTransaction_rxCrc (s : State) (i : BitVec 6) (a : Word) : (s.beginTransaction i a).rxCrc = s.rxCrc := rfl
@[simp] theorem beginTransaction_ocr (s : State) (i : BitVec 6) (a : Word) : (s.beginTransaction i a).ocr = s.ocr := rfl
@[simp] theorem beginTransaction_ccsNew (s : State) (i : BitVec 6) (a : Word) : (s.beginTransaction i a).ccsNew = s.ccsNew := rfl
@[simp] theorem beginTransaction_history (s : State) (i : BitVec 6) (a : Word) : (s.beginTransaction i a).history = .writeContinue (frame i a) :: s.history := rfl
@[simp] theorem beginTransaction_mem (s : State) (i : BitVec 6) (a : Word) : (s.beginTransaction i a).mem = s.mem := rfl
@[simp] theorem beginTransaction_k (s : State) (i : BitVec 6) (a : Word) : (s.beginTransaction i a).k = s.k := rfl
@[simp] theorem beginTransaction_rxStage (s : State) (i : BitVec 6) (a : Word) : (s.beginTransaction i a).rxStage = s.rxStage := rfl
@[simp] theorem beginTransaction_requests (s : State) (i : BitVec 6) (a : Word) : (s.beginTransaction i a).requests = s.requests := rfl
@[simp] theorem beginTransaction_card (s : State) (i : BitVec 6) (a : Word) : (s.beginTransaction i a).card = s.card := rfl
@[simp] theorem beginTransaction_cardCount (s : State) (i : BitVec 6) (a : Word) : (s.beginTransaction i a).cardCount = s.cardCount := rfl
@[simp] theorem beginTransaction_ticks (s : State) (i : BitVec 6) (a : Word) : (s.beginTransaction i a).ticks = s.ticks := rfl
@[simp] theorem beginTransaction_tickCount (s : State) (i : BitVec 6) (a : Word) : (s.beginTransaction i a).tickCount = s.tickCount := rfl
@[simp] theorem beginTransaction_freeCount (s : State) (i : BitVec 6) (a : Word) : (s.beginTransaction i a).freeCount = s.freeCount := rfl

end Sys2Proof.Machine.State
end

