-- ==== Sys2Proof/Laws/Ops.lean ====
section
/-! SUPPORT. The environment's answers, register files, `RxBytes` and the start of an operation: one lemma
for each outcome. -/

namespace Sys2Proof.Machine

theorem drawBytes_length (n : Nat) (script : List Byte) (c : Nat) :
    (drawBytes n script c).1.length = n := by
  induction n generalizing script c with
  | zero => rfl
  | succ n ih => cases script <;> simp [drawBytes, ih]

/-- While the script lasts, its bytes are what the card sends. -/
theorem drawBytes_script (bs rest : List Byte) (c : Nat) :
    drawBytes bs.length (bs ++ rest) c = (bs, rest, c) := by
  induction bs with
  | nil => rfl
  | cons b bs ih => simp [drawBytes, ih]

@[simp] theorem incoming_length (s : State) (n : Nat) : (s.incoming n).length = n :=
  drawBytes_length n _ _

theorem incoming_script (s : State) (bs rest : List Byte) (h : s.card = bs ++ rest) :
    s.incoming bs.length = bs := by
  rw [State.incoming, h, drawBytes_script]

theorem incoming_one (s : State) (b : Byte) (rest : List Byte) (h : s.card = b :: rest) :
    s.incoming 1 = [b] := incoming_script s [b] rest h

/-! The next bytes and the next ticks by number. -/

theorem incoming_one_byteAt (s : State) : s.incoming 1 = [s.byteAt 0] := by
  cases h : s.card <;> simp [State.incoming, State.byteAt, drawBytes, h]

theorem byteAt_readContinue_one (s : State) (n : Nat) :
    (s.readContinue 1).byteAt n = s.byteAt (n + 1) := by
  cases h : s.card with
  | nil =>
    have e : s.cardCount + 1 + n = s.cardCount + (n + 1) := by omega
    simp [State.byteAt, State.readContinue, State.log, drawBytes, h, e]
  | cons b bs => simp [State.byteAt, State.readContinue, State.log, drawBytes, h]

theorem nextTick_tickAt (s : State) : s.nextTick = s.tickAt 0 := by
  cases h : s.ticks <;> simp [State.nextTick, State.tickAt, h]

theorem tickAt_readTick (s : State) (n : Nat) : s.readTick.tickAt n = s.tickAt (n + 1) := by
  cases h : s.ticks with
  | nil =>
    have e : s.tickCount + 1 + n = s.tickCount + (n + 1) := by omega
    simp [State.tickAt, h, e]
  | cons t ts => simp [State.tickAt, h]

theorem rxBytes_hold (n : Nat) (store : List Byte → State → State) (after : State → State) (s : State)
    (h : s.rxStage = .hold) : rxBytes n store after s = { s.holdMosi with rxStage := .read } := by
  simp [rxBytes, h]

theorem rxBytes_read (n : Nat) (store : List Byte → State → State) (after : State → State) (s : State)
    (h : s.rxStage = .read) :
    rxBytes n store after s = { store (s.incoming n) (s.readContinue n) with rxStage := .release } := by
  simp [rxBytes, h]

theorem rxBytes_release (n : Nat) (store : List Byte → State → State) (after : State → State) (s : State)
    (h : s.rxStage = .release) :
    rxBytes n store after s = after { s.releaseMosi with rxStage := .hold } := by
  simp [rxBytes, h]

/-- A register that the stored bytes reach holds its byte; any other keeps its value (R33). -/
theorem storeFrom_get {n : Nat} (v : Vector Byte n) (k : Nat) (bs : List Byte) (i : Nat) (hi : i < n) :
    (storeFrom v k bs)[i] = if h : k ≤ i ∧ i - k < bs.length then bs[i - k] else v[i] := by
  induction bs generalizing v k with
  | nil => simp [storeFrom]
  | cons b bs ih =>
    rw [storeFrom, ih]
    by_cases h1 : k + 1 ≤ i
    · have e : i - k = (i - (k + 1)) + 1 := by omega
      have hk : k ≠ i := by omega
      by_cases h2 : i - (k + 1) < bs.length
      · rw [dif_pos ⟨h1, h2⟩, dif_pos ⟨by omega, by simp; omega⟩]
        simp [e]
      · rw [dif_neg (by omega), dif_neg (by simp; omega)]
        simp [hk]
    · by_cases hk : k = i
      · subst hk
        rw [dif_neg (by omega), dif_pos ⟨by omega, by simp⟩]
        simp
      · rw [dif_neg (by omega), dif_neg (by omega)]
        simp [hk]

/-- A register file filled to the last register is the bytes stored. -/
theorem storeFrom_full {n : Nat} (v : Vector Byte n) (bs : List Byte) (h : bs.length = n) :
    (storeFrom v 0 bs).toList = bs := by
  apply List.ext_getElem
  · simp [h]
  · intro i h1 h2
    have hi : i < n := by omega
    have := storeFrom_get v 0 bs i hi
    simp only [Nat.zero_le, Nat.sub_zero, true_and, h2, dif_pos] at this
    simpa using this

/-- A request is refused exactly while the block is busy. -/
theorem accept_busy (i : Instr) (load : Request → Request) (run : State → State) (s : State)
    (h : s.busy = true) : accept i load run s = .refused .requestWhileBusy := by
  simp [accept, h]

/-- What a request does to a block at rest, before the operation's own part. -/
theorem accept_rest (i : Instr) (load : Request → Request) (run : State → State) (s : State)
    (h : s.busy = false) :
    accept i load run s = .next (run { s with
      busy := true, ops := load (Config.unspecifiedOperands s.freeCount), freeCount := s.freeCount + 1,
      history := .request i :: s.history }) := by
  simp [accept, h, State.log]

end Sys2Proof.Machine
end

