-- ==== Sys2Proof/Laws/PerInstr.lean ====
section
/-! SUPPORT. Families of facts about every instruction term, one lemma a constructor. -/

namespace Sys2Proof.Laws.Format

/-- The three formats are told apart by length and first byte: a request is 35 bytes and begins with an op
code, a frame is 6 bytes and begins with the prefix `01`, the token is the one byte 0xFE (R92, R95, R109). -/
def Statement (i : Instr) : Prop :=
  ((encode i).length = 35 ∧ ((encode i).headD 0).extractLsb' 3 5 = 0) ∨
  ((encode i).length = 6 ∧ ((encode i).headD 0).extractLsb' 6 2 = 1) ∨
  encode i = [0xFE]

theorem init : Statement .init := Or.inl ⟨rfl, by decide⟩
theorem read (start count : Word) (buf : Handle) : Statement (.read start count buf) :=
  Or.inl ⟨rfl, (op_byte_facts 2).2.1⟩
theorem cmd (idx : BitVec 6) (arg : Word) : Statement (.cmd idx arg) :=
  Or.inl ⟨rfl, (op_byte_facts 3).2.1⟩
theorem cmdr (idx : BitVec 6) (arg : Word) (size : BitVec 5) : Statement (.cmdr idx arg size) :=
  Or.inl ⟨rfl, (op_byte_facts 4).2.1⟩
theorem crc7 (src : Handle) (len resIn : Half) : Statement (.crc7 src len resIn) :=
  Or.inl ⟨rfl, (op_byte_facts 5).2.1⟩
theorem crc16 (src : Handle) (len resIn : Half) : Statement (.crc16 src len resIn) :=
  Or.inl ⟨rfl, (op_byte_facts 6).2.1⟩
theorem reservedOp0 : Statement .reservedOp0 := Or.inl ⟨rfl, by rfl⟩
theorem reservedOp7 : Statement .reservedOp7 := Or.inl ⟨rfl, by rfl⟩
theorem cmd0 : Statement .cmd0 := Or.inr (Or.inl ⟨rfl, by rfl⟩)
theorem cmd8 : Statement .cmd8 := Or.inr (Or.inl ⟨rfl, by rfl⟩)
theorem cmd9 : Statement .cmd9 := Or.inr (Or.inl ⟨rfl, by rfl⟩)
theorem cmd10 : Statement .cmd10 := Or.inr (Or.inl ⟨rfl, by rfl⟩)
theorem cmd12 : Statement .cmd12 := Or.inr (Or.inl ⟨rfl, by rfl⟩)
theorem cmd17 (start : Word) (crc : BitVec 7) : Statement (.cmd17 start crc) :=
  Or.inr (Or.inl ⟨rfl, by simp only [encode, List.headD_cons]; decide⟩)
theorem cmd18 (start : Word) (crc : BitVec 7) : Statement (.cmd18 start crc) :=
  Or.inr (Or.inl ⟨rfl, by simp only [encode, List.headD_cons]; decide⟩)
theorem cmd55 : Statement .cmd55 := Or.inr (Or.inl ⟨rfl, by rfl⟩)
theorem acmd41 : Statement .acmd41 := Or.inr (Or.inl ⟨rfl, by rfl⟩)
theorem cmd58 : Statement .cmd58 := Or.inr (Or.inl ⟨rfl, by rfl⟩)
theorem cmdn (idx : BitVec 6) (arg : Word) (crc : BitVec 7) : Statement (.cmdn idx arg crc) :=
  Or.inr (Or.inl ⟨rfl, Machine.frameFirst_prefix idx⟩)
theorem dataStartToken : Statement .dataStartToken := Or.inr (Or.inr rfl)

end Sys2Proof.Laws.Format
end

