-- ==== Sys2Proof/Laws/Step.lean ====
section
/-! SUPPORT. How a step splits, and runs of several steps. -/

namespace Sys2Proof.Machine

/-- No instruction is fetched: the step is the sequencer's. -/
theorem step_of_fetch_none (s : State) (h : fetch s = none) : step s = advance s := by
  simp [step, h]

/-- Inside an operation, away from `T1` and from a pending token, nothing is fetched. -/
theorem fetch_none (s : State) (hb : s.busy = true) (ht : s.phase.minor ≠ .t1)
    (hp : s.phase.awaitsToken = false ∨ s.rxStage ≠ .release ∨ s.tok ≠ dataStartByte) :
    fetch s = none := by
  rcases hp with h | h | h <;> simp [fetch, hb, ht, State.tokenPending, h]

/-- The step of a busy block away from `T1` and from a pending token. -/
theorem step_busy (s : State) (hb : s.busy = true) (ht : s.phase.minor ≠ .t1)
    (hp : s.phase.awaitsToken = false ∨ s.rxStage ≠ .release ∨ s.tok ≠ dataStartByte) :
    step s = advance s :=
  step_of_fetch_none s (fetch_none s hb ht hp)

@[simp] theorem run_zero (s : State) : run 0 s = .next s := rfl

theorem run_succ (n : Nat) (s t : State) (h : step s = .next t) : run (n + 1) s = run n t := by
  simp [run, h]

theorem run_one (s : State) : run 1 s = step s := by
  simp only [run]
  cases step s <;> rfl

/-- A run of `m + n` steps is a run of `m` and then one of `n`. -/
theorem run_add (m n : Nat) (s t : State) (h : run m s = .next t) : run (m + n) s = run n t := by
  induction m generalizing s with
  | zero => cases h; simp
  | succ m ih =>
    rw [Nat.succ_add]
    simp only [run] at h ⊢
    cases hs : step s with
    | next u => rw [hs] at h; exact ih u h
    | fault f => rw [hs] at h; cases h
    | refused r => rw [hs] at h; cases h

/-- One more step of the host's run. -/
theorem core_run_succ (M : Host.Core) (n : Nat) (s : M.State) :
    M.run (n + 1) s = match M.step s with
      | .next s' => M.run n s'
      | .fault r => .fault r
      | .refused r => .refused r := rfl

/-- The model's `run` is the host's. -/
theorem run_eq_core_run (n : Nat) (s : State) : run n s = Host.Core.run Sys2Proof.core n s := by
  induction n generalizing s with
  | zero => rfl
  | succ n ih =>
    rw [run]
    refine Eq.trans ?_ (core_run_succ Sys2Proof.core n s).symm
    have hc : Sys2Proof.core.step s = step s := rfl
    rw [hc]
    cases step s with
    | next t => exact ih t
    | fault f => rfl
    | refused r => rfl

end Sys2Proof.Machine
end

