-- ==== Sys2Proof/Tests/Slice0.lean ====
section
/-! SUPPORT. Small tests: ill-formed terms refused, words decoded, the checksum tables and vectors, single
steps, and for every obligation with hypotheses a witness that meets them. Expected values come from the
spec's tables, worked examples and vectors, named in each comment. -/

namespace Sys2Proof.Tests

-- One proof at a time: the kernel checks here are many, and each would hold a thread.
set_option Elab.async false

open Sys2Proof.Machine

/-! ### Well-formedness -/

/-- R98: the CRC field of a frame must be its CRC-7 (0x55 >> 1 = 0x2A for CMD17(0), 0x0E is no CRC of it). -/
theorem test_cmd17_crc_refused : (Instr.cmd17 0 0x0E).wellFormed = false := by decide +kernel
/-- R98: 0x69 >> 1 is the CRC of CMD18(0). -/
theorem test_cmd18_crc_refused : (Instr.cmd18 0 0x00).wellFormed = false := by decide +kernel
/-- R98: the CRC of CMD63(0xFFFFFFFF) is 0x0C. -/
theorem test_cmdn_crc_refused : (Instr.cmdn 63 0xFFFFFFFF 0x0D).wellFormed = false := by decide +kernel
/-- R100: CMD0 with argument 0 has a row of its own. -/
theorem test_cmdn_own_row_refused : (Instr.cmdn 0 0 0x4A).wellFormed = false := by decide +kernel
/-- R100: CMD8 with another argument is a CMDn. -/
theorem test_cmdn_accepted : (Instr.cmdn 63 0xFFFFFFFF 0x0C).wellFormed = true := by decide +kernel

/-! ### Decoding, from the tables of R92, R95, R100 and R109; request layout from log 11 -/

/-- 28 zero bytes: the fields of a request after `size`. -/
def z28 : List Byte := List.replicate 28 0

theorem test_decode_init : decode ([0x01, 0, 0, 0, 0, 0, 0] ++ z28) = .ok (.init, []) := by decide +kernel
theorem test_decode_read :
    decode ([0x02, 0, 0, 0, 0, 0, 0] ++ [0x00, 0x76, 0x2C, 0x00] ++ [0, 0, 0, 0x03] ++
      [0, 0, 0, 0, 0x20, 0, 0, 0x10] ++ List.replicate 12 0) = .ok (.read 0x762C00 3 0x20000010, []) := by
  decide +kernel
theorem test_decode_cmd :
    decode ([0x03, 0x3F, 0xFF, 0xFF, 0xFF, 0xFF, 0] ++ z28) = .ok (.cmd 63 0xFFFFFFFF, []) := by
  decide +kernel
theorem test_decode_cmdr :
    decode ([0x04, 0x3A, 0, 0, 0, 0, 0x05] ++ z28) = .ok (.cmdr 58 0 5, []) := by decide +kernel
theorem test_decode_crc7 :
    decode ([0x05, 0, 0, 0, 0, 0, 0] ++ List.replicate 16 0 ++ [0, 0, 0, 0, 0, 0, 0x12, 0x34] ++
      [0x00, 0x05] ++ [0x00, 0x7F]) = .ok (.crc7 0x1234 5 0x7F, []) := by decide +kernel
theorem test_decode_crc16 :
    decode ([0x06, 0, 0, 0, 0, 0, 0] ++ List.replicate 16 0 ++ [0x80, 0, 0, 0, 0, 0, 0, 0] ++
      [0x02, 0x00] ++ [0xFF, 0xFF]) = .ok (.crc16 0x8000000000000000 512 0xFFFF, []) := by decide +kernel
theorem test_decode_reserved_op0 : decode ([0x00, 0, 0, 0, 0, 0, 0] ++ z28) = .ok (.reservedOp0, []) := by
  decide +kernel
theorem test_decode_reserved_op7 : decode ([0x07, 0, 0, 0, 0, 0, 0] ++ z28) = .ok (.reservedOp7, []) := by
  decide +kernel
theorem test_decode_cmd0 : decode [0x40, 0x00, 0x00, 0x00, 0x00, 0x95] = .ok (.cmd0, []) := by decide +kernel
theorem test_decode_cmd8 : decode [0x48, 0x00, 0x00, 0x01, 0xAA, 0x87] = .ok (.cmd8, []) := by decide +kernel
theorem test_decode_cmd9 : decode [0x49, 0x00, 0x00, 0x00, 0x00, 0xAF] = .ok (.cmd9, []) := by decide +kernel
theorem test_decode_cmd10 : decode [0x4A, 0x00, 0x00, 0x00, 0x00, 0x1B] = .ok (.cmd10, []) := by decide +kernel
theorem test_decode_cmd12 : decode [0x4C, 0x00, 0x00, 0x00, 0x00, 0x61] = .ok (.cmd12, []) := by decide +kernel
theorem test_decode_cmd17 : decode [0x51, 0x00, 0x00, 0x00, 0x00, 0x55] = .ok (.cmd17 0 0x2A, []) := by decide +kernel
theorem test_decode_cmd55 : decode [0x77, 0x00, 0x00, 0x00, 0x00, 0x65] = .ok (.cmd55, []) := by decide +kernel
theorem test_decode_acmd41 : decode [0x69, 0x40, 0x00, 0x00, 0x00, 0x77] = .ok (.acmd41, []) := by decide +kernel
theorem test_decode_cmd58 : decode [0x7A, 0x00, 0x00, 0x00, 0x00, 0xFD] = .ok (.cmd58, []) := by decide +kernel
/-- The frame of `READ 0, 3` in 95_test_vectors.md ends in the CRC byte of CMD18(0). -/
theorem test_decode_cmd18 : decode [0x52, 0x00, 0x00, 0x00, 0x02, 0xC5] = .ok (.cmd18 2 0x62, []) := by
  decide +kernel
theorem test_decode_cmdn : decode [0x7F, 0xFF, 0xFF, 0xFF, 0xFF, 0x19] = .ok (.cmdn 63 0xFFFFFFFF 0x0C, []) := by
  decide +kernel
theorem test_decode_token : decode [0xFE] = .ok (.dataStartToken, []) := by decide +kernel
/-- R95: the stop bit must be 1; no other first byte opens an instruction. -/
theorem test_decode_rejects :
    decode [0x40, 0x00, 0x00, 0x00, 0x00, 0x94] = .error .stopBitClear ∧
    decode [0x80, 0, 0, 0, 0, 0] = .error (.unknownFirstByte 0x80) ∧
    decode [0x40, 0x00] = .error .shortFrame ∧ decode [0x01] = .error .shortRequest ∧
    decode ([0x03, 0x40, 0, 0, 0, 0, 0] ++ z28) = .error .wideField ∧ decode [] = .error .noBytes := by
  decide +kernel
/-- The table's own numbering: bit 47 of a frame is sent first. -/
theorem test_table_words :
    decodeTableWord 48 0x48000001AA87 = some .cmd8 ∧ decodeTableWord 8 0xFE = some .dataStartToken ∧
    decodeTableWord 3 2 = some (.read 0 0 0) ∧ decodeTableWord 8 7 = some .reservedOp7 := by decide +kernel

/-! ### The checksum units -/

/-- The listing of R134. -/
def t7Listing : List Byte :=
  [0x00, 0x12, 0x24, 0x36, 0x48, 0x5A, 0x6C, 0x7E] ++
  [0x90, 0x82, 0xB4, 0xA6, 0xD8, 0xCA, 0xFC, 0xEE] ++
  [0x32, 0x20, 0x16, 0x04, 0x7A, 0x68, 0x5E, 0x4C] ++
  [0xA2, 0xB0, 0x86, 0x94, 0xEA, 0xF8, 0xCE, 0xDC] ++
  [0x64, 0x76, 0x40, 0x52, 0x2C, 0x3E, 0x08, 0x1A] ++
  [0xF4, 0xE6, 0xD0, 0xC2, 0xBC, 0xAE, 0x98, 0x8A] ++
  [0x56, 0x44, 0x72, 0x60, 0x1E, 0x0C, 0x3A, 0x28] ++
  [0xC6, 0xD4, 0xE2, 0xF0, 0x8E, 0x9C, 0xAA, 0xB8] ++
  [0xC8, 0xDA, 0xEC, 0xFE, 0x80, 0x92, 0xA4, 0xB6] ++
  [0x58, 0x4A, 0x7C, 0x6E, 0x10, 0x02, 0x34, 0x26] ++
  [0xFA, 0xE8, 0xDE, 0xCC, 0xB2, 0xA0, 0x96, 0x84] ++
  [0x6A, 0x78, 0x4E, 0x5C, 0x22, 0x30, 0x06, 0x14] ++
  [0xAC, 0xBE, 0x88, 0x9A, 0xE4, 0xF6, 0xC0, 0xD2] ++
  [0x3C, 0x2E, 0x18, 0x0A, 0x74, 0x66, 0x50, 0x42] ++
  [0x9E, 0x8C, 0xBA, 0xA8, 0xD6, 0xC4, 0xF2, 0xE0] ++
  [0x0E, 0x1C, 0x2A, 0x38, 0x46, 0x54, 0x62, 0x70] ++
  [0x82, 0x90, 0xA6, 0xB4, 0xCA, 0xD8, 0xEE, 0xFC] ++
  [0x12, 0x00, 0x36, 0x24, 0x5A, 0x48, 0x7E, 0x6C] ++
  [0xB0, 0xA2, 0x94, 0x86, 0xF8, 0xEA, 0xDC, 0xCE] ++
  [0x20, 0x32, 0x04, 0x16, 0x68, 0x7A, 0x4C, 0x5E] ++
  [0xE6, 0xF4, 0xC2, 0xD0, 0xAE, 0xBC, 0x8A, 0x98] ++
  [0x76, 0x64, 0x52, 0x40, 0x3E, 0x2C, 0x1A, 0x08] ++
  [0xD4, 0xC6, 0xF0, 0xE2, 0x9C, 0x8E, 0xB8, 0xAA] ++
  [0x44, 0x56, 0x60, 0x72, 0x0C, 0x1E, 0x28, 0x3A] ++
  [0x4A, 0x58, 0x6E, 0x7C, 0x02, 0x10, 0x26, 0x34] ++
  [0xDA, 0xC8, 0xFE, 0xEC, 0x92, 0x80, 0xB6, 0xA4] ++
  [0x78, 0x6A, 0x5C, 0x4E, 0x30, 0x22, 0x14, 0x06] ++
  [0xE8, 0xFA, 0xCC, 0xDE, 0xA0, 0xB2, 0x84, 0x96] ++
  [0x2E, 0x3C, 0x0A, 0x18, 0x66, 0x74, 0x42, 0x50] ++
  [0xBE, 0xAC, 0x9A, 0x88, 0xF6, 0xE4, 0xD2, 0xC0] ++
  [0x1C, 0x0E, 0x38, 0x2A, 0x54, 0x46, 0x70, 0x62] ++
  [0x8C, 0x9E, 0xA8, 0xBA, 0xC4, 0xD6, 0xE0, 0xF2]

/-- The listing of R144. -/
def t16Listing : List Half :=
  [0x0000, 0x1021, 0x2042, 0x3063, 0x4084, 0x50A5, 0x60C6, 0x70E7] ++
  [0x8108, 0x9129, 0xA14A, 0xB16B, 0xC18C, 0xD1AD, 0xE1CE, 0xF1EF] ++
  [0x1231, 0x0210, 0x3273, 0x2252, 0x52B5, 0x4294, 0x72F7, 0x62D6] ++
  [0x9339, 0x8318, 0xB37B, 0xA35A, 0xD3BD, 0xC39C, 0xF3FF, 0xE3DE] ++
  [0x2462, 0x3443, 0x0420, 0x1401, 0x64E6, 0x74C7, 0x44A4, 0x5485] ++
  [0xA56A, 0xB54B, 0x8528, 0x9509, 0xE5EE, 0xF5CF, 0xC5AC, 0xD58D] ++
  [0x3653, 0x2672, 0x1611, 0x0630, 0x76D7, 0x66F6, 0x5695, 0x46B4] ++
  [0xB75B, 0xA77A, 0x9719, 0x8738, 0xF7DF, 0xE7FE, 0xD79D, 0xC7BC] ++
  [0x48C4, 0x58E5, 0x6886, 0x78A7, 0x0840, 0x1861, 0x2802, 0x3823] ++
  [0xC9CC, 0xD9ED, 0xE98E, 0xF9AF, 0x8948, 0x9969, 0xA90A, 0xB92B] ++
  [0x5AF5, 0x4AD4, 0x7AB7, 0x6A96, 0x1A71, 0x0A50, 0x3A33, 0x2A12] ++
  [0xDBFD, 0xCBDC, 0xFBBF, 0xEB9E, 0x9B79, 0x8B58, 0xBB3B, 0xAB1A] ++
  [0x6CA6, 0x7C87, 0x4CE4, 0x5CC5, 0x2C22, 0x3C03, 0x0C60, 0x1C41] ++
  [0xEDAE, 0xFD8F, 0xCDEC, 0xDDCD, 0xAD2A, 0xBD0B, 0x8D68, 0x9D49] ++
  [0x7E97, 0x6EB6, 0x5ED5, 0x4EF4, 0x3E13, 0x2E32, 0x1E51, 0x0E70] ++
  [0xFF9F, 0xEFBE, 0xDFDD, 0xCFFC, 0xBF1B, 0xAF3A, 0x9F59, 0x8F78] ++
  [0x9188, 0x81A9, 0xB1CA, 0xA1EB, 0xD10C, 0xC12D, 0xF14E, 0xE16F] ++
  [0x1080, 0x00A1, 0x30C2, 0x20E3, 0x5004, 0x4025, 0x7046, 0x6067] ++
  [0x83B9, 0x9398, 0xA3FB, 0xB3DA, 0xC33D, 0xD31C, 0xE37F, 0xF35E] ++
  [0x02B1, 0x1290, 0x22F3, 0x32D2, 0x4235, 0x5214, 0x6277, 0x7256] ++
  [0xB5EA, 0xA5CB, 0x95A8, 0x8589, 0xF56E, 0xE54F, 0xD52C, 0xC50D] ++
  [0x34E2, 0x24C3, 0x14A0, 0x0481, 0x7466, 0x6447, 0x5424, 0x4405] ++
  [0xA7DB, 0xB7FA, 0x8799, 0x97B8, 0xE75F, 0xF77E, 0xC71D, 0xD73C] ++
  [0x26D3, 0x36F2, 0x0691, 0x16B0, 0x6657, 0x7676, 0x4615, 0x5634] ++
  [0xD94C, 0xC96D, 0xF90E, 0xE92F, 0x99C8, 0x89E9, 0xB98A, 0xA9AB] ++
  [0x5844, 0x4865, 0x7806, 0x6827, 0x18C0, 0x08E1, 0x3882, 0x28A3] ++
  [0xCB7D, 0xDB5C, 0xEB3F, 0xFB1E, 0x8BF9, 0x9BD8, 0xABBB, 0xBB9A] ++
  [0x4A75, 0x5A54, 0x6A37, 0x7A16, 0x0AF1, 0x1AD0, 0x2AB3, 0x3A92] ++
  [0xFD2E, 0xED0F, 0xDD6C, 0xCD4D, 0xBDAA, 0xAD8B, 0x9DE8, 0x8DC9] ++
  [0x7C26, 0x6C07, 0x5C64, 0x4C45, 0x3CA2, 0x2C83, 0x1CE0, 0x0CC1] ++
  [0xEF1F, 0xFF3E, 0xCF5D, 0xDF7C, 0xAF9B, 0xBFBA, 0x8FD9, 0x9FF8] ++
  [0x6E17, 0x7E36, 0x4E55, 0x5E74, 0x2E93, 0x3EB2, 0x0ED1, 0x1EF0]

/-- R134: the generating rule gives the listing. -/
theorem test_t7_listing : (List.range 256).map (fun i => t7 (BitVec.ofNat 8 i)) = t7Listing := by
  decide +kernel
/-- R144: the generating rule gives the listing. -/
theorem test_t16_listing : (List.range 256).map (fun i => t16 (BitVec.ofNat 8 i)) = t16Listing := by
  decide +kernel
/-- R131, R138: the worked examples. -/
theorem test_crc7_vectors :
    crc7 [0x40, 0x00, 0x00, 0x00, 0x00] 0 = 0x4A ∧ crc7 [0x48, 0x00, 0x00, 0x01, 0xAA] 0 = 0x43 ∧
    crc7 [0, 0, 0, 0, 0] 0 = 0 := by decide +kernel
/-- R141: `"123456789"`. -/
theorem test_crc16_check :
    crc16 [0x31, 0x32, 0x33, 0x34, 0x35, 0x36, 0x37, 0x38, 0x39] 0 = 0x31C3 := by decide +kernel
/-- 64 bytes of 0xFF. -/
def ones64 : List Byte := List.replicate 64 0xFF

/-- R147: 512 bytes of 0xFF, 64 at a time. -/
theorem test_crc16_ones : crc16 (ones64 ++ ones64 ++ ones64 ++ ones64 ++ ones64 ++ ones64 ++ ones64 ++ ones64) 0 =
    0x7FA1 := by
  have h0 : crc16 ones64 0x0000 = 0x278E := by decide +kernel
  have h1 : crc16 ones64 0x278E = 0xEDA9 := by decide +kernel
  have h2 : crc16 ones64 0xEDA9 = 0x9131 := by decide +kernel
  have h3 : crc16 ones64 0x9131 = 0x1AC7 := by decide +kernel
  have h4 : crc16 ones64 0x1AC7 = 0x8689 := by decide +kernel
  have h5 : crc16 ones64 0x8689 = 0x955C := by decide +kernel
  have h6 : crc16 ones64 0x955C = 0x7046 := by decide +kernel
  have h7 : crc16 ones64 0x7046 = 0x7FA1 := by decide +kernel
  have h : (0 : Half) = 0x0000 := rfl
  rw [crc16_append, crc16_append, crc16_append, crc16_append, crc16_append, crc16_append, crc16_append,
    h, h0, h1, h2, h3, h4, h5, h6, h7]
/-- R224: the document's worked example, 7,744,512 blocks. -/
theorem test_block_count : blockCount 0x001D8A = 7744512 ∧ blockCount 0 = 1024 ∧
    blockCount 0x3FFFFE = 0xFFFFFC00 ∧ blockCount 0x3FFFFF = 0 := by decide +kernel

/-! ### Single steps -/

/-- A busy block at a label, the operation of `op` running. -/
def busyAt (op : BitVec 3) (major : Major) (minor : Minor) : State :=
  { State.reset with busy := true, ops := Request.blank op, phase := { major := major, minor := minor } }

/-- The same inside a transaction. -/
def openAt (op : BitVec 3) (major : Major) (minor : Minor) : State :=
  { busyAt op major minor with cs := .asserted }

/-- The outcome is a next state of which `p` holds. -/
def gives (o : Result) (p : State → Bool) : Bool :=
  match o with
  | .next t => p t
  | .fault _ => false
  | .refused _ => false

/-- R203: `blocks` and `ccs` are cleared in the step that takes INIT. -/
theorem test_init : gives (exec .init { State.reset with blocks := 1024, ccs := true })
    (fun t => t.blocks == 0 && !t.ccs && t.phase == ⟨.i1, .none⟩ && t.busy) = true := by decide +kernel
/-- R242: the last index may equal `blocks`. -/
theorem test_read_last : gives (exec (.read 1023 2 0x80) { State.reset with blocks := 1024 })
    (fun t => t.busy && t.phase == ⟨.b1, .t1⟩ && t.ops.start == 1023) = true := by decide +kernel
/-- R242: one more is out of range, and so is a count of 0. -/
theorem test_read_range :
    gives (exec (.read 1024 2 0x80) { State.reset with blocks := 1024 })
      (fun t => !t.busy && t.kind == .errRange) = true ∧
    gives (exec (.read 0 0 0x80) { State.reset with blocks := 1024 })
      (fun t => !t.busy && t.kind == .errRange) = true := by decide +kernel
/-- R168. -/
theorem test_cmd : gives (exec (.cmd 17 5) State.reset)
    (fun t => t.phase == ⟨.x1, .t1⟩ && t.ops.idx == 17 && t.ops.arg == 5) = true := by decide +kernel
/-- R94: `size` 19 is legal, 20 is refused. -/
theorem test_cmdr :
    gives (exec (.cmdr 9 0 19) State.reset) (fun t => t.phase == ⟨.x2, .t1⟩) = true ∧
    gives (exec (.cmdr 9 0 20) State.reset)
      (fun t => t.kind == .refused && t.status == 0xFF && !t.busy) = true := by decide +kernel
/-- R47: `token_missing` left by the call before is cleared at the start of the next. -/
theorem test_flag_cleared :
    gives (exec (.cmdr 9 0 19) { State.reset with tokenMissing := true }) (fun t => !t.tokenMissing) = true ∧
    gives (step { openAt 1 .i8 .t9 with tokenMissing := true })
      (fun t => t.phase == ⟨.i9, .t1⟩ && !t.tokenMissing) = true := by decide +kernel
/-- R137: `len` = 0 returns `res_in[6:0]`. -/
theorem test_crc7_empty : gives (exec (.crc7 0 0 0xFFFF) State.reset)
    (fun t => t.crcOut == 0x007F && t.kind == .ok) = true := by decide +kernel
/-- R147: `len` = 0 returns `res_in`. -/
theorem test_crc16_empty : gives (exec (.crc16 0 0 0xFFFF) State.reset)
    (fun t => t.crcOut == 0xFFFF && t.kind == .ok) = true := by decide +kernel
/-- R93. -/
theorem test_reserved :
    gives (exec .reservedOp0 State.reset) (fun t => t.kind == .refused && t.status == 0xFF) = true ∧
    gives (exec .reservedOp7 State.reset) (fun t => t.kind == .refused && t.status == 0xFF) = true := by
  decide +kernel
/-- R100: the ten frames, and one of another index, as a step sends them. -/
theorem test_frames :
    [exec .cmd0, exec .cmd8, exec .cmd9, exec .cmd10, exec .cmd12, exec (.cmd17 0 0), exec (.cmd18 2 0),
      exec .cmd55, exec .acmd41, exec .cmd58, exec (.cmdn 63 0xFFFFFFFF 0)].map
      (fun f => gives (f (busyAt 3 .x1 .t1)) (fun t => t.cs == .asserted && t.phase == ⟨.x1, .t2⟩)) =
    List.replicate 11 true ∧
    gives (exec (.cmd17 0 0) (busyAt 2 .b1 .t1))
      (fun t => t.history == [.writeContinue [0x51, 0x00, 0x00, 0x00, 0x00, 0x55]]) = true := by
  decide +kernel
/-- R248: the token ends READ's wait with no tick read. -/
theorem test_token : gives (step { openAt 2 .b3 .none with rxStage := .release, mosiHold := .held1, tok := 0xFE })
    (fun t => t.phase == ⟨.b5, .none⟩ && t.history == [.releaseMosi]) = true := by decide +kernel
/-- R109: any other byte means "not yet". -/
theorem test_not_token :
    gives (step { openAt 2 .b3 .none with rxStage := .release, mosiHold := .held1, tok := 0xFC })
      (fun t => t.phase == ⟨.b4, .none⟩) = true := by decide +kernel
/-- R248: 99 ms go on, 100 ms end the wait, and the difference wraps. -/
theorem test_deadline :
    gives (step { openAt 2 .b4 .none with t0 := 0xFFFFFFFF, ticks := [98], tok := 0 })
      (fun t => t.phase == ⟨.b3, .none⟩) = true ∧
    gives (step { openAt 2 .b4 .none with t0 := 0xFFFFFFFF, ticks := [99], tok := 0 })
      (fun t => t.phase == ⟨.b9, .t9⟩ && t.now == 99) = true := by decide +kernel
/-- R62: byte 511 of block 3 goes to offset 512 * 3 + 511. -/
theorem test_payload_byte :
    gives (step { openAt 2 .b6 .none with
        ops := { Request.blank 2 with buf := 0x1000, count := 4 }, blkI := 3, j := 511,
        pay := Vector.replicate 512 0xA5 })
      (fun t => t.mem == [(0x17FF, 0xA5)] && t.phase == ⟨.b7, .none⟩ && t.acc16 == crc16 [0xA5] 0) = true := by
  decide +kernel
/-- R206: an R1 other than 0x01 after CMD0 is INIT's status, even 0x00 (R320). -/
theorem test_cmd0_answer :
    gives (step { openAt 1 .i3 .t9 with r1 := 0x00 })
      (fun t => t.kind == .errR1 && t.status == 0x00 && t.cs == .deasserted && !t.busy) = true ∧
    gives (step { openAt 1 .i3 .t9 with r1 := 0x01 }) (fun t => t.phase == ⟨.i4, .t1⟩) = true := by
  decide +kernel
/-- R38, U2: no step for a request while busy. -/
theorem test_request_while_busy : exec (.cmd 0 0) (busyAt 3 .x1 .t1) = .refused .requestWhileBusy := by
  rfl
/-- `withFetchWord` places a request, a frame and the token where the next step fetches them. -/
theorem test_with_fetch_word :
    gives (step (State.reset.withFetchWord 3 1)) (fun t => t.phase == ⟨.i1, .none⟩) = true ∧
    gives (step (State.reset.withFetchWord 48 0x48000001AA87))
      (fun t => t.history == [.writeContinue [0x48, 0x00, 0x00, 0x01, 0xAA, 0x87]]) = true ∧
    gives (step (State.reset.withFetchWord 8 0xFE)) (fun t => t.phase == ⟨.b5, .none⟩) = true := by
  decide +kernel

/-! ### For every obligation with hypotheses, states and operands that meet them

`meets_<Name>` belongs to `Obligations.<Name>`; where the statement has several clauses there is a part for
each, at a boundary of its range. -/

theorem meets_DecodeEncodeAgree :
    (Instr.cmdn 63 0xFFFFFFFF 0x0C).wellFormed = true ∧ (Instr.cmd17 0 0x2A).wellFormed = true ∧
    (Instr.read 0xFFFFFFFF 0xFFFFFFFF 0xFFFFFFFFFFFFFFFF).wellFormed = true := by decide +kernel
theorem meets_EncodeDecodeFrames :
    isFrame [0x7F, 0xFF, 0xFF, 0xFF, 0xFF, 0x19] = true ∧
    isFrame [0x40, 0x00, 0x00, 0x00, 0x00, 0x95] = true := by decide +kernel
theorem meets_ProducibleFrames : isFrame [0x48, 0x00, 0x00, 0x01, 0xAA, 0x87] = true := by decide +kernel
theorem meets_FrameFieldsOnTheWire :
    frame 63 0xFFFFFFFF = [0x7F, 0xFF, 0xFF, 0xFF, 0xFF, 0x19] ∧
    frame 0 0 = [0x40, 0x00, 0x00, 0x00, 0x00, 0x95] := by decide +kernel
theorem meets_Crc7Algebra :
    ([0x00, 0xFF] : List Byte).length = ([0x12, 0x34] : List Byte).length ∧ 7 < 8 := by decide +kernel
theorem meets_Crc16Algebra :
    ([0x00, 0xFF] : List Byte).length = ([0x12, 0x34] : List Byte).length ∧ 7 < 8 := by decide +kernel

theorem meets_InitRequest : State.reset.busy = false := by decide +kernel
/-- In range up to the last index; out of range one above it and for a count of 0 (R242). -/
theorem meets_ReadRequest :
    ({ State.reset with blocks := 1024 } : State).busy = false ∧
    ¬ ((2 : Word).toNat = 0 ∨ (1024 : Word).toNat < (1023 : Word).toNat + (2 : Word).toNat - 1) ∧
    ((2 : Word).toNat = 0 ∨ (1024 : Word).toNat < (1024 : Word).toNat + (2 : Word).toNat - 1) ∧
    ((0 : Word).toNat = 0 ∨ (1024 : Word).toNat < (0 : Word).toNat + (0 : Word).toNat - 1) := by
  decide +kernel
theorem meets_CmdRequest : State.reset.busy = false := by decide +kernel
theorem meets_CmdrRequest :
    State.reset.busy = false ∧ (19 : BitVec 5).toNat ≤ 19 ∧ ¬ (20 : BitVec 5).toNat ≤ 19 := by decide +kernel
theorem meets_CrcRequests : State.reset.busy = false ∧ (0 : Half) = 0 ∧ (1 : Half) ≠ 0 := by decide +kernel
theorem meets_ReservedRequests : State.reset.busy = false := by decide +kernel
/-- A step of a busy block answers a next state, with a request of the host pending. -/
theorem meets_RequestsWhileBusy :
    ({ busyAt 1 .i1 .none with requests := [Request.blank 3] } : State).busy = true ∧
    gives (step { busyAt 1 .i1 .none with requests := [Request.blank 3] })
      (fun t => t.requests == [Request.blank 3]) = true := by decide +kernel

/-- A block in a token wait, its byte just received. -/
def tokenAt (op : BitVec 3) (major : Major) (minor : Minor) : State :=
  { openAt op major minor with rxStage := .release, mosiHold := .held1, tok := 0xFE }

theorem meets_TokenEndsWait :
    ((tokenAt 2 .b3 .none).busy = true ∧ (tokenAt 2 .b3 .none).rxStage = .release ∧
      (tokenAt 2 .b3 .none).phase = ⟨.b3, .none⟩) ∧
    ((tokenAt 4 .x2 .t3).busy = true ∧ (tokenAt 4 .x2 .t3).rxStage = .release ∧
      (tokenAt 4 .x2 .t3).phase.minor = .t3 ∧ (tokenAt 4 .x2 .t3).phase.major = .x2) ∧
    (State.reset.phase.major ≠ .b3 ∧ State.reset.phase.minor ≠ .t3) := by decide +kernel
theorem meets_StepRunsFetched :
    (fetch { State.reset with requests := [Request.blank 7] } = some (encode .reservedOp7) ∧
      decode (encode .reservedOp7) = .ok (.reservedOp7, [])) ∧
    (fetch (busyAt 1 .i4 .t1) = some [0x48, 0x00, 0x00, 0x01, 0xAA, 0x87] ∧
      decode [0x48, 0x00, 0x00, 0x01, 0xAA, 0x87] = .ok (.cmd8, [])) ∧
    (({ State.reset with requests := [Request.blank 7] } : State).busy = false ∧
      ({ State.reset with requests := [Request.blank 7] } : State).requests = Request.blank 7 :: []) ∧
    ((busyAt 1 .i4 .t1).busy = true ∧ (busyAt 1 .i4 .t1).phase.minor = .t1 ∧
      (busyAt 1 .i4 .t1).command = some (8, 0x1AA, some 5)) ∧
    ((tokenAt 1 .i9 .t3).tokenPending = true ∧ (tokenAt 1 .i9 .t3).tok = 0xFE) := by decide +kernel
theorem meets_RestWaits : State.reset.busy = false ∧ State.reset.requests = [] := by decide +kernel

theorem meets_BeginTransactionStep :
    ((busyAt 3 .x1 .t1).busy = true ∧ (busyAt 3 .x1 .t1).phase.minor = .t1 ∧
      (busyAt 3 .x1 .t1).command = some (0, 0, none)) ∧
    ((openAt 2 .b8 .t1).busy = true ∧ (openAt 2 .b8 .t1).phase.minor = .t1 ∧
      (openAt 2 .b8 .t1).command = some (12, 0, none)) := by decide +kernel
/-- READ's `B1` with this count. -/
def b1At (n : Word) : State :=
  { busyAt 2 .b1 .t1 with ops := { Request.blank 2 with count := n } }

/-- `B1` with any count: 1 (CMD17), 2 and 2^32 - 1 (CMD18) among them. -/
theorem meets_FramesOfTheSteps_b1 (n : Word) :
    (b1At n).busy = true ∧ (b1At n).phase = ⟨.b1, .t1⟩ ∧ (b1At n).ops.count = n := ⟨rfl, rfl, rfl⟩
theorem meets_FramesOfTheSteps_count_one : (b1At 1).ops.count = 1 ∧ (b1At 2).ops.count ≠ 1 := by
  decide +kernel
theorem meets_FramesOfTheSteps :
    ∀ m ∈ [Major.i3, .i4, .i5, .i6a, .i6b, .i7, .i8, .i9, .b1, .b8, .x1, .x2],
      (busyAt 1 m .t1).busy = true ∧ (busyAt 1 m .t1).phase.minor = .t1 ∧
      (busyAt 1 m .t1).phase.major = m := by decide +kernel

/-- A poll of CMD after `n` reads, the card about to send `b`. -/
def pollAt (op : BitVec 3) (major : Major) (minor : Minor) (n : BitVec 4) (b : Byte) : State :=
  { openAt op major minor with attempt := n, card := [b] }

/-- The seventh read with bit 7 set goes on, the eighth ends the poll, and so does bit 7 clear. -/
theorem meets_PollReads :
    ((pollAt 3 .x1 .t2 6 0x80).busy = true ∧ (pollAt 3 .x1 .t2 6 0x80).phase.minor = .t2 ∧
      (pollAt 3 .x1 .t2 6 0x80).rxStage = .hold ∧ (pollAt 3 .x1 .t2 6 0x80).command = some (0, 0, none)) ∧
    ((pollAt 3 .x1 .t2 6 0x80).nextByte.getLsbD 7 = true ∧ (pollAt 3 .x1 .t2 6 0x80).attempt + 1 ≠ 8) ∧
    ¬ ((pollAt 3 .x1 .t2 7 0x80).nextByte.getLsbD 7 = true ∧ (pollAt 3 .x1 .t2 7 0x80).attempt + 1 ≠ 8) ∧
    ¬ ((pollAt 3 .x1 .t2 0 0x7F).nextByte.getLsbD 7 = true ∧ (pollAt 3 .x1 .t2 0 0x7F).attempt + 1 ≠ 8) := by
  decide +kernel

/-- A poll of CMDR with this index and size. -/
def pollX2 (idx : BitVec 6) (size : BitVec 5) : State :=
  { pollAt 4 .x2 .t2 0 0x01 with ops := { Request.blank 4 with idx := idx, size := size } }

theorem meets_PollEnds :
    (∀ x ∈ [(pollAt 2 .b1 .t2 7 0xFF, some (18, 0, none)), (pollAt 2 .b1 .t2 0 0x00, some (18, 0, none)),
        (pollAt 2 .b8 .t2 0 0x7F, some (12, 0, none)), (pollAt 3 .x1 .t2 0 0x01, some (0, 0, none)),
        (pollX2 9 1, some (9, 0, some 1)), (pollX2 58 2, some (58, 0, some 2)),
        (pollX2 9 2, some (9, 0, some 2)), (pollX2 10 19, some (10, 0, some 19))],
      x.1.busy = true ∧ x.1.phase.minor = .t2 ∧ x.1.rxStage = .hold ∧ x.1.command = x.2 ∧
      (x.1.nextByte.getLsbD 7 = false ∨ x.1.attempt + 1 = 8)) ∧
    (pollAt 2 .b1 .t2 7 0xFF).nextByte ≠ 0x00 ∧ (pollAt 2 .b1 .t2 0 0x00).nextByte = 0x00 :=
  ⟨by decide +kernel, by decide +kernel⟩
/-- The token, the eighth other byte, and another byte before it. -/
theorem meets_RegisterTokenPoll :
    (∀ s ∈ [pollAt 4 .x2 .t3 7 0xFE, pollAt 1 .i8 .t3 7 0xFF, pollAt 1 .i9 .t3 6 0xFF],
      s.busy = true ∧ s.phase.minor = .t3 ∧ s.rxStage = .hold ∧
      (s.phase.major = .x2 ∨ s.phase.major = .i8 ∨ s.phase.major = .i9)) ∧
    (pollAt 4 .x2 .t3 7 0xFE).nextByte = 0xFE ∧
    ((pollAt 1 .i8 .t3 7 0xFF).nextByte ≠ 0xFE ∧ (pollAt 1 .i8 .t3 7 0xFF).attempt + 1 = 8) ∧
    ((pollAt 1 .i9 .t3 6 0xFF).nextByte ≠ 0xFE ∧ (pollAt 1 .i9 .t3 6 0xFF).attempt + 1 ≠ 8) := by
  decide +kernel
theorem meets_AdditionalBytes :
    ((openAt 1 .i5 .t4).busy = true ∧ (openAt 1 .i5 .t4).phase.minor = .t4 ∧
      (openAt 1 .i5 .t4).rxStage = .hold ∧ (openAt 1 .i5 .t4).command = some (58, 0, some 5)) ∧
    ((openAt 1 .i9 .t4).busy = true ∧ (openAt 1 .i9 .t4).phase.minor = .t4 ∧
      (openAt 1 .i9 .t4).rxStage = .hold ∧ (openAt 1 .i9 .t4).command = some (9, 0, some 19)) := by
  decide +kernel
theorem meets_EndTransactionStep :
    ControlInv (openAt 1 .i3 .t9) ∧ (openAt 1 .i3 .t9).busy = true ∧
    (openAt 1 .i3 .t9).phase.minor = .t9 := by
  refine ⟨?_, rfl, rfl⟩
  exact
    { rest := by decide +kernel
      running := by decide +kernel
      operation := by decide +kernel
      chipSelect := by decide +kernel
      dataOut := by decide +kernel
      reading := by decide +kernel
      polls := by decide +kernel
      cmdrSize := by decide +kernel
      additional := by decide +kernel
      search := by decide +kernel
      flagClear := by decide +kernel
      sourceIndex := by decide +kernel
      range := by decide +kernel
      blockIndex := by decide +kernel
      multiBlock := by decide +kernel
      notToken := by decide +kernel
      loopBound := by rintro (h | h) <;> cases h }
theorem meets_CommandAnswers :
    ((openAt 3 .x1 .t9).busy = true ∧ (openAt 3 .x1 .t9).phase.minor = .t9 ∧
      (openAt 3 .x1 .t9).phase.major = .x1) ∧
    ((openAt 4 .x2 .t9).busy = true ∧ (openAt 4 .x2 .t9).phase.minor = .t9 ∧
      (openAt 4 .x2 .t9).phase.major = .x2) := by decide +kernel

theorem meets_InitClockSteps :
    ∀ m ∈ [Major.i1, .i2, .i10], (busyAt 1 m .none).busy = true ∧ (busyAt 1 m .none).phase.minor = .none ∧
      (busyAt 1 m .none).phase.major = m := by decide +kernel

/-- The end of a transaction of INIT, with this R1 and these first additional bytes. -/
def initAt (major : Major) (r1 : Byte) (bytes : List Byte) : State :=
  { openAt 1 major .t9 with r1 := r1, resp := storeFrom (Vector.replicate 18 0) 0 bytes }

theorem meets_InitAfterCmd0 :
    ∀ r ∈ [0x00, 0x01, 0x02], (initAt .i3 r []).busy = true ∧ (initAt .i3 r []).phase = ⟨.i3, .t9⟩ ∧
      (initAt .i3 r []).r1 = r := by decide +kernel
theorem meets_InitAfterCmd8 :
    (∀ r ∈ [0x00, 0x01, 0x05, 0xFF], (initAt .i4 r []).busy = true ∧
      (initAt .i4 r []).phase = ⟨.i4, .t9⟩ ∧ (initAt .i4 r []).r1 = r) ∧
    (initAt .i4 0x01 [0, 0, 1, 0xAA]).resp[3] = 0xAA ∧ (initAt .i4 0x01 [0, 0, 1, 0xAB]).resp[3] ≠ 0xAA := by
  decide +kernel
theorem meets_InitAfterCmd58 :
    ∀ r ∈ [0x00, 0x01, 0x02], (initAt .i5 r [0x80, 0xFF, 0x80, 0x00]).busy = true ∧
      (initAt .i5 r [0x80, 0xFF, 0x80, 0x00]).phase = ⟨.i5, .t9⟩ ∧
      (initAt .i5 r [0x80, 0xFF, 0x80, 0x00]).r1 = r := by decide +kernel
theorem meets_InitLoop :
    ∀ m ∈ [Major.i6a, .i8, .i6b], ∀ r ∈ [0x00, 0x01], (initAt m r []).busy = true ∧
      (initAt m r []).phase.minor = .t9 ∧ (initAt m r []).phase.major = m ∧ (initAt m r []).r1 = r := by
  decide +kernel
theorem meets_InitAfterSecondCmd58 :
    (∀ r ∈ [0x00, 0x01], (initAt .i7 r []).busy = true ∧ (initAt .i7 r []).phase = ⟨.i7, .t9⟩ ∧
      (initAt .i7 r []).r1 = r) ∧
    (initAt .i7 0x00 [0xC0]).resp[0].getLsbD 7 = true ∧
    (initAt .i7 0x00 [0x7F]).resp[0].getLsbD 7 = false := by decide +kernel
/-- A CSD of zeros has the CRC-16 0, so with a last byte of 1 the check fails. -/
theorem meets_InitAfterCsd :
    (∀ r ∈ [0x00, 0x01], (initAt .i9 r []).busy = true ∧ (initAt .i9 r []).phase = ⟨.i9, .t9⟩ ∧
      (initAt .i9 r []).r1 = r ∧ (initAt .i9 r []).tokenMissing = false) ∧
    ({ initAt .i9 0x00 [] with tokenMissing := true } : State).tokenMissing = true ∧
    crc16 ((initAt .i9 0x00 []).resp.toList.take 16) 0 =
      be16 (initAt .i9 0x00 []).resp[16] (initAt .i9 0x00 []).resp[17] ∧
    crc16 ((initAt .i9 0x00 (List.replicate 17 0 ++ [1])).resp.toList.take 16) 0 ≠
      be16 (initAt .i9 0x00 (List.replicate 17 0 ++ [1])).resp[16]
        (initAt .i9 0x00 (List.replicate 17 0 ++ [1])).resp[17] := by
  decide +kernel

/-- READ's token wait: the card about to send `b`, the tick `v` to be read, the wait begun at 2^32 - 1. -/
def waitAt (b : Byte) (v : Word) : State :=
  { openAt 2 .b3 .none with card := [b], ticks := [v], t0 := 0xFFFFFFFF }

/-- A wait that has two passes before it, the deadline in the second. -/
def longWait : State :=
  { openAt 2 .b3 .none with card := [0x00, 0xFF], ticks := [98, 99], t0 := 0xFFFFFFFF }

/-- The deadline passes at the second tick read; until then the wait goes on. -/
theorem meets_ReadTokenWait_liveness :
    longWait.busy = true ∧ longWait.phase = ⟨.b3, .none⟩ ∧ longWait.rxStage = .hold ∧
    longWait.TickLiveness longWait.t0 ∧
    (∀ k, k < 1 → longWait.byteAt k ≠ 0xFE ∧ elapsed longWait.t0 (longWait.tickAt k) < 100) := by
  have h : Config.tokenTimeoutMs ≤ elapsed longWait.t0 (longWait.tickAt 1) := by decide +kernel
  have g : ∀ k, k < 1 → longWait.byteAt k ≠ 0xFE ∧ elapsed longWait.t0 (longWait.tickAt k) < 100 := by
    decide +kernel
  exact ⟨rfl, rfl, rfl, Exists.intro 1 h, g⟩
theorem meets_ReadTokenWait :
    ((openAt 2 .b2 .none).busy = true ∧ (openAt 2 .b2 .none).phase = ⟨.b2, .none⟩) ∧
    (∀ s ∈ [waitAt 0xFE 99, waitAt 0xFF 98, waitAt 0xFF 99],
      s.busy = true ∧ s.phase = ⟨.b3, .none⟩ ∧ s.rxStage = .hold) ∧
    (waitAt 0xFE 99).nextByte = 0xFE ∧
    ((waitAt 0xFF 98).nextByte ≠ 0xFE ∧
      ((waitAt 0xFF 98).nextTick.toNat + 2 ^ 32 - (waitAt 0xFF 98).t0.toNat) % 2 ^ 32 < 100) ∧
    ((waitAt 0xFF 99).nextByte ≠ 0xFE ∧
      ¬ ((waitAt 0xFF 99).nextTick.toNat + 2 ^ 32 - (waitAt 0xFF 99).t0.toNat) % 2 ^ 32 < 100) := by
  decide +kernel

/-- `B7` of block `i` of `n`, the CRC-16 so far 0x0001, the card about to send two bytes. -/
def crcAt (i n : Word) (card : List Byte) : State :=
  { openAt 2 .b7 .none with ops := { Request.blank 2 with count := n }, blkI := i, acc16 := 1, card := card }

/-- A mismatch; the last but one block; the last of several; the only one. -/
theorem meets_ReadPayloadAndCrc :
    ((openAt 2 .b5 .none).busy = true ∧ (openAt 2 .b5 .none).rxStage = .hold ∧
      (openAt 2 .b5 .none).phase = ⟨.b5, .none⟩) ∧
    (∀ s ∈ [crcAt 0 1 [1, 0], crcAt 0 2 [0, 1], crcAt 1 2 [0, 1], crcAt 0 1 [0, 1]],
      s.busy = true ∧ s.rxStage = .hold ∧ s.phase = ⟨.b7, .none⟩) ∧
    (crcAt 0 1 [1, 0]).acc16 ≠
      be16 (((crcAt 0 1 [1, 0]).incoming 2).getD 0 0) (((crcAt 0 1 [1, 0]).incoming 2).getD 1 0) ∧
    (crcAt 0 2 [0, 1]).acc16 =
      be16 (((crcAt 0 2 [0, 1]).incoming 2).getD 0 0) (((crcAt 0 2 [0, 1]).incoming 2).getD 1 0) ∧
    (crcAt 0 2 [0, 1]).blkI.toNat + 1 < (crcAt 0 2 [0, 1]).ops.count.toNat ∧
    ¬ (crcAt 1 2 [0, 1]).blkI.toNat + 1 < (crcAt 1 2 [0, 1]).ops.count.toNat ∧
    1 < (crcAt 1 2 [0, 1]).ops.count.toNat ∧ ¬ 1 < (crcAt 0 1 [0, 1]).ops.count.toNat := by
  decide +kernel
/-- Byte 510 and byte 511, over memory that already lists the address. -/
theorem meets_PayloadByte :
    ∀ j ∈ [510, 511], ∀ s ∈ [({ openAt 2 .b6 .none with j := j, mem := [(511, 0xA5)] } : State)],
      s.busy = true ∧ s.phase = ⟨.b6, .none⟩ ∧ s.mem.wf = true ∧ s.j = j := by decide +kernel
/-- The four answers: R1, token timeout, CRC, success. -/
theorem meets_ReadAnswers :
    ∀ s ∈ [({ openAt 2 .b9 .t9 with r1 := 0x04 } : State), openAt 2 .b9 .t9,
        { openAt 2 .b9 .t9 with tok := 0xFE, acc16 := 1 }, { openAt 2 .b9 .t9 with tok := 0xFE }],
      s.busy = true ∧ s.phase = ⟨.b9, .t9⟩ := by decide +kernel

/-! Whole operations: the block at rest after reset, with what the card will send. -/

/-- The block after reset before a card that will send these bytes. -/
def cardSends (bytes : List Byte) : State := { State.reset with card := bytes }

/-- The R1 at the eighth read, with bit 7 set; and at the first, with bit 7 clear. -/
theorem meets_CmdOperation :
    (∀ x ∈ [(List.replicate 7 (0x80 : Byte), (0xFF : Byte)), ([], 0x7F)],
      (cardSends (x.1 ++ x.2 :: [0xAA])).busy = false ∧ (cardSends (x.1 ++ x.2 :: [0xAA])).rxStage = .hold ∧
      (cardSends (x.1 ++ x.2 :: [0xAA])).card = x.1 ++ x.2 :: [0xAA] ∧
      (∀ b ∈ x.1, b.getLsbD 7 = true) ∧ x.1.length < 8 ∧ (x.2.getLsbD 7 = false ∨ x.1.length = 7)) := by
  decide +kernel
/-- CMDR 58 of size 5, and CMDR 9 of size 1. -/
theorem meets_CmdrOperation :
    (∀ x ∈ [((58 : BitVec 6), (5 : BitVec 5), [0x11, 0x22, 0x33, 0x44]), (9, 1, []), (63, 19, List.replicate 18 0xFE)],
      (cardSends ([0xFF] ++ 0x01 :: (x.2.2 ++ []))).busy = false ∧
      (cardSends ([0xFF] ++ 0x01 :: (x.2.2 ++ []))).card = [0xFF] ++ 0x01 :: (x.2.2 ++ []) ∧
      x.2.1.toNat ≤ 19 ∧ x.2.2.length = x.2.1.toNat - 1 ∧
      (x.1 ≠ 9 ∧ x.1 ≠ 10 ∨ x.2.1.toNat ≤ 1)) ∧
    (∀ b ∈ ([0xFF] : List Byte), b.getLsbD 7 = true) ∧ ([0xFF] : List Byte).length < 8 ∧
    ((0x01 : Byte).getLsbD 7 = false ∨ ([0xFF] : List Byte).length = 7) ∧
    State.reset.rxStage = .hold := by decide +kernel
/-- CMDR 9 of size 19 whose token is the eighth byte of the poll. -/
theorem meets_CmdrRegisterOperation :
    (∀ skip ∈ [List.replicate 7 (0xFF : Byte), []], ∀ x ∈ [((9 : BitVec 6), (19 : BitVec 5)), (10, 2)],
      ∀ data ∈ [List.replicate (x.2.toNat - 1) (0xFE : Byte)],
      ∀ s ∈ [cardSends ([] ++ 0x00 :: (skip ++ 0xFE :: (data ++ [])))],
        s.busy = false ∧ s.rxStage = .hold ∧ s.card = [] ++ 0x00 :: (skip ++ 0xFE :: (data ++ [])) ∧
        (∀ b ∈ skip, b ≠ 0xFE) ∧ skip.length < 8 ∧ (x.1 = 9 ∨ x.1 = 10) ∧ 1 < x.2.toNat ∧
        x.2.toNat ≤ 19 ∧ data.length = x.2.toNat - 1) ∧
    (∀ b ∈ ([] : List Byte), b.getLsbD 7 = true) ∧ ([] : List Byte).length < 8 ∧
    ((0x00 : Byte).getLsbD 7 = false ∨ ([] : List Byte).length = 7) :=
  ⟨by decide +kernel, by decide +kernel⟩
theorem meets_CmdrTokenMissing :
    (∀ s ∈ [cardSends ([] ++ 0x00 :: (List.replicate 8 0xFF ++ []))],
      s.busy = false ∧ s.rxStage = .hold ∧ s.card = [] ++ 0x00 :: (List.replicate 8 0xFF ++ [])) ∧
    (∀ b ∈ ([] : List Byte), b.getLsbD 7 = true) ∧ ([] : List Byte).length < 8 ∧
    ((0x00 : Byte).getLsbD 7 = false ∨ ([] : List Byte).length = 7) ∧
    (∀ b ∈ List.replicate 8 (0xFF : Byte), b ≠ 0xFE) ∧ (List.replicate 8 (0xFF : Byte)).length = 8 ∧
    ((10 : BitVec 6) = 9 ∨ (10 : BitVec 6) = 10) ∧ 1 < (2 : BitVec 5).toNat ∧ (2 : BitVec 5).toNat ≤ 19 := by
  decide +kernel
theorem meets_Crc7Operation : State.reset.busy = false := by decide +kernel
theorem meets_Crc16Operation : State.reset.busy = false := by decide +kernel

/-- The bound of the operating-condition loop is at least 1 (R8). -/
theorem acmd41MaxIter_pos : ∀ n, Config.acmd41MaxIter = some n → 0 < n := by
  intro n h
  simp only [Config.acmd41MaxIter, Option.map_eq_some_iff] at h
  obtain ⟨m, -, rfl⟩ := h
  omega

/-- What a V2 card sends during INIT when its CSD is all zeros, with the CRC-16 bytes `c0`, `c1`. -/
def v2Card (c0 c1 : Byte) : List Byte :=
  [0x01] ++ [0x01, 0, 0, 1, 0xAA] ++ [0x01, 0x00, 0xFF, 0x80, 0x00] ++
    ([] : List (Byte × Byte)).flatMap (fun x => [x.1, x.2]) ++ [0x01, 0x00] ++ [0x00, 0xC0, 0xFF, 0x80, 0x00] ++
    0x7F :: 0xFE :: List.replicate 18 0 ++ 0x00 :: 0xFE :: List.replicate 16 0 ++ [c0, c1] ++ [0xFF]

/-- A right CRC and a wrong one; the bound of the loop admits one pass whatever it is. -/
theorem meets_InitV2Operation :
    (∀ n, Config.acmd41MaxIter = some n → ([] : List (Byte × Byte)).length < n) ∧
    (∀ c ∈ [0x00, 0x01], (cardSends (v2Card 0x00 c)).busy = false ∧
      (cardSends (v2Card 0x00 c)).rxStage = .hold ∧ (cardSends (v2Card 0x00 c)).requests = [] ∧
      (cardSends (v2Card 0x00 c)).card = v2Card 0x00 c) ∧
    (∀ x ∈ ([] : List (Byte × Byte)), x.1.getLsbD 7 = false ∧ x.2.getLsbD 7 = false ∧ x.2 ≠ 0x00) ∧
    (0x01 : Byte).getLsbD 7 = false ∧ (0x7F : Byte).getLsbD 7 = false ∧ (0xC0 : Byte).getLsbD 7 = true ∧
    (List.replicate 18 (0 : Byte)).length = 18 ∧ (List.replicate 16 (0 : Byte)).length = 16 ∧
    crc16 (List.replicate 16 0) 0 = be16 0x00 0x00 ∧ crc16 (List.replicate 16 0) 0 ≠ be16 0x00 0x01 := by
  have h : crc16 (List.replicate 16 0) 0 = 0 := by decide +kernel
  have e : be16 0x00 0x00 = 0 := by decide +kernel
  have f : (0 : Half) ≠ be16 0x00 0x01 := by decide +kernel
  have g (bytes : List Byte) : (cardSends bytes).busy = false ∧ (cardSends bytes).rxStage = .hold ∧
      (cardSends bytes).requests = [] ∧ (cardSends bytes).card = bytes := ⟨rfl, rfl, rfl, rfl⟩
  exact ⟨acmd41MaxIter_pos, fun _ _ => g _, (fun _ hx => nomatch hx), by decide +kernel,
    by decide +kernel, by decide +kernel,
    List.length_replicate, List.length_replicate, h.trans e.symm, h.trans_ne f⟩
theorem meets_InitV1Operation :
    ∀ s ∈ [cardSends ([0x01, 0x05, 0xFF, 0xFF, 0xFF, 0xFF, 0x01, 0x00, 0xFF, 0x80, 0x00, 0x01, 0x00] ++ [])],
      s.busy = false ∧ s.rxStage = .hold ∧ s.requests = [] ∧ (0x01 : Byte).getLsbD 7 = false ∧
      s.card = [0x01, 0x05, 0xFF, 0xFF, 0xFF, 0xFF, 0x01, 0x00, 0xFF, 0x80, 0x00, 0x01, 0x00] ++ [] := by
  decide +kernel

/-- A block after reset with 1024 blocks known, before a card that will send these bytes. -/
def reader (bytes : List Byte) : State := { State.reset with blocks := 1024, card := bytes }

/-- The last index the range check admits is `blocks` itself. -/
theorem meets_ReadOneBlock (c0 c1 : Byte) :
    ∀ payload, payload = List.replicate 512 (0x00 : Byte) →
    ∀ s, s = reader (0x00 :: 0xFE :: payload ++ [c0, c1] ++ []) →
      s.busy = false ∧ s.rxStage = .hold ∧ s.mem.wf = true ∧ (1024 : Word).toNat ≤ s.blocks.toNat ∧
      payload.length = 512 ∧ s.card = 0x00 :: 0xFE :: payload ++ [c0, c1] ++ [] := by
  rintro _ rfl _ rfl
  exact ⟨rfl, rfl, rfl, Nat.le_refl _, List.length_replicate, rfl⟩
theorem meets_ReadManyBlocks :
    ∀ payloads, payloads = [List.replicate 512 (0x00 : Byte), List.replicate 512 0xFF] →
    ∀ s, s = reader (0x00 :: payloads.flatMap (fun p => 0xFE :: p ++ bytes16 (crc16 p 0)) ++ 0x7F :: []) →
      s.busy = false ∧ s.rxStage = .hold ∧ s.mem.wf = true ∧ payloads.length = (2 : Word).toNat ∧
      1 < (2 : Word).toNat ∧ (1023 : Word).toNat + (2 : Word).toNat - 1 ≤ s.blocks.toNat ∧
      (∀ p ∈ payloads, p.length = 512) ∧ (0x7F : Byte).getLsbD 7 = false ∧
      s.card = 0x00 :: payloads.flatMap (fun p => 0xFE :: p ++ bytes16 (crc16 p 0)) ++ 0x7F :: [] := by
  rintro _ rfl _ rfl
  refine ⟨rfl, rfl, rfl, rfl, by decide, Nat.le_refl _, fun p hp => ?_, by decide, rfl⟩
  rcases List.mem_pair.mp hp with h | h <;> rw [h, List.length_replicate]

/-! Invariants: READ of two blocks from index 5, one payload byte of the first written. -/

/-- The block in the middle of READ's payload. -/
def midRead : State :=
  { State.reset with
    blocks := 1024, clkHz := 25000000, busy := true,
    ops := { Request.blank 2 with start := 5, count := 2, buf := 0x1000 },
    phase := ⟨.b6, .none⟩, cs := .asserted, j := 1, tok := 0xFE,
    pay := Vector.replicate 512 0xA5, mem := [(0x1000, 0xA5)], acc16 := crc16 [0xA5] 0,
    history :=
      [.memWrite 0x1000 0 0xA5, .releaseMosi, .readContinue (List.replicate 512 0xA5), .holdMosi true] ++
      readEvents [0xFE] ++ [.tick 7] ++ readEvents [0x00] ++
      [.writeContinue (frame 18 5), .request (.read 5 2 0x1000), .setClock 25000000] }

theorem midRead_control : ControlInv midRead where
  rest := by decide +kernel
  running := by decide +kernel
  operation := by decide +kernel
  chipSelect := by decide +kernel
  dataOut := by decide +kernel
  reading := by decide +kernel
  polls := by decide +kernel
  cmdrSize := by decide +kernel
  additional := by decide +kernel
  search := by decide +kernel
  flagClear := by decide +kernel
  sourceIndex := by decide +kernel
  range := by decide +kernel
  blockIndex := by decide +kernel
  multiBlock := by decide +kernel
  notToken := by decide +kernel
  loopBound := by rintro (h | h) <;> cases h
theorem midRead_session : SessionInv midRead where
  unit := by decide +kernel
  uncommitted := by decide +kernel
  clock := by decide +kernel
  evenAcc7 := by decide +kernel
theorem midRead_block : BlockInv midRead := by
  constructor
  · intro _ _
    decide +kernel
  · intro _ _ i h hi
    have e : i = 0 := by
      have : midRead.j.toNat = 1 := rfl
      omega
    have hm : midRead.mem.read (address midRead.ops.buf (Config.blockLen * midRead.blkI.toNat + 0)) =
      0xA5 := by decide +kernel
    subst e
    exact hm.trans (Vector.getElem_replicate h).symm
  · intro _ h
    cases h
  · intro _ h
    cases h
theorem midRead_bus : BusInv midRead := by
  constructor
  · rfl
  · rfl
  · intro hz h
    have e : busClock midRead.history = some 25000000 := rfl
    rw [e] at h
    cases h
    rfl
  · decide +kernel
  · exact ⟨Or.inl rfl, trivial⟩
  · intro _ _
    decide +kernel

/-- The step writes byte 1 and goes on. -/
theorem midRead_step : ∃ t, step midRead = .next t := by
  have h : gives (step midRead) (fun t => t.mem == [(0x1000, 0xA5), (0x1001, 0xA5)]) = true := by
    decide +kernel
  cases e : step midRead with
  | next t => exact ⟨t, rfl⟩
  | fault f => rw [e] at h; cases h
  | refused r => rw [e] at h; cases h

theorem meets_StepKeepsControl : ControlInv midRead ∧ ∃ t, step midRead = .next t :=
  ⟨midRead_control, midRead_step⟩
theorem meets_StepKeepsMemoryForm : midRead.mem.wf = true ∧ ∃ t, step midRead = .next t :=
  ⟨rfl, midRead_step⟩
theorem meets_StepKeepsSession : ControlInv midRead ∧ SessionInv midRead ∧ ∃ t, step midRead = .next t :=
  ⟨midRead_control, midRead_session, midRead_step⟩
theorem meets_StepKeepsBlock :
    midRead.mem.wf = true ∧ ControlInv midRead ∧ BlockInv midRead ∧ ∃ t, step midRead = .next t :=
  ⟨rfl, midRead_control, midRead_block, midRead_step⟩
theorem meets_StepKeepsBus : ControlInv midRead ∧ BusInv midRead ∧ ∃ t, step midRead = .next t :=
  ⟨midRead_control, midRead_bus, midRead_step⟩
theorem meets_EveryStepGoesOn : ControlInv midRead := midRead_control
/-- A step inside an operation, and one that ends it. -/
theorem meets_OperandsAndResults :
    (midRead.busy = true ∧ ∃ t, step midRead = .next t) ∧
    (busyAt 1 .i10 .none).busy = true ∧
    gives (step (busyAt 1 .i10 .none)) (fun t => !t.busy && t.kind == .ok) = true :=
  ⟨⟨rfl, midRead_step⟩, rfl, by decide +kernel⟩
/-- A step that writes neither, INIT's acceptance, and the commit. -/
theorem meets_SessionWriters :
    (∃ t, step midRead = .next t) ∧
    gives (step { State.reset with blocks := 1024, requests := [Request.blank 1] })
      (fun t => t.blocks == 0) = true ∧
    gives (step (initAt .i9 0x00 [])) (fun t => t.blocks == 1024) = true :=
  ⟨midRead_step, by decide +kernel, by decide +kernel⟩
theorem meets_MemoryWriters : midRead.mem.wf = true ∧ ∃ t, step midRead = .next t := ⟨rfl, midRead_step⟩
/-- A step with one event, and one with two. -/
theorem meets_EventSources :
    (∃ t, step midRead = .next t) ∧
    gives (step (busyAt 1 .i10 .none))
      (fun t => t.history == [.response .ok 0x00, .setClock 25000000]) = true :=
  ⟨midRead_step, by decide +kernel⟩

end Sys2Proof.Tests
end

namespace Sys2Proof.Machine

/-! ### What a step can do

The one inversion of `step`: each of its outcomes is a case of `StepCase`, so that a rule of the whole
machine is proved by cases on it and never unfolds `fetch`, `decode` or the sequencer again. -/

/-- The steps a state `s` can make, one constructor for each place the sequencer can stand (R35 to R37,
log 13). -/
inductive StepCase (s : State) : State → Prop
  | waiting (busy : s.busy = false) (none_pending : s.requests = []) : StepCase s s
  | request {t : State} (r : Request) (rs : List Request) (busy : s.busy = false)
      (pending : s.requests = r :: rs)
      (meaning : exec r.toInstr { s with requests := rs } = .next t) : StepCase s t
  | token {t : State} (pending : s.tokenPending = true) (tok : s.tok = dataStartByte)
      (meaning : execDataStartToken s = .next t) : StepCase s t
  | frame (idx : BitVec 6) (arg : Word) (size : Option Nat) (busy : s.busy = true)
      (minor : s.phase.minor = .t1) (command : s.command = some (idx, arg, size)) :
      StepCase s (s.beginTransaction idx arg)
  | poll (idx : BitVec 6) (arg : Word) (size : Option Nat) (busy : s.busy = true)
      (minor : s.phase.minor = .t2) (command : s.command = some (idx, arg, size)) :
      StepCase s (stepT2 idx size s)
  | search (busy : s.busy = true) (minor : s.phase.minor = .t3) (waits : s.phase.awaitsToken = true) :
      StepCase s (stepT3 s)
  | additional (idx : BitVec 6) (arg : Word) (n : Nat) (busy : s.busy = true)
      (minor : s.phase.minor = .t4) (command : s.command = some (idx, arg, some n)) :
      StepCase s (stepT4 n s)
  | closing {t : State} (busy : s.busy = true) (minor : s.phase.minor = .t9)
      (ends : afterTransaction (s.toggle Config.endToggleBytes) = .next t) : StepCase s t
  | k7 (busy : s.busy = true) (phase : s.phase = ⟨.k7, .none⟩) : StepCase s (stepK7 s)
  | k16 (busy : s.busy = true) (phase : s.phase = ⟨.k16, .none⟩) : StepCase s (stepK16 s)
  | i1 (busy : s.busy = true) (phase : s.phase = ⟨.i1, .none⟩) : StepCase s (stepI1 s)
  | i2 (busy : s.busy = true) (phase : s.phase = ⟨.i2, .none⟩) : StepCase s (stepI2 s)
  | i10 (busy : s.busy = true) (phase : s.phase = ⟨.i10, .none⟩) : StepCase s (stepI10 s)
  | b2 (busy : s.busy = true) (phase : s.phase = ⟨.b2, .none⟩) : StepCase s (stepB2 s)
  | b3 (busy : s.busy = true) (phase : s.phase = ⟨.b3, .none⟩) : StepCase s (stepB3 s)
  | b4 (busy : s.busy = true) (phase : s.phase = ⟨.b4, .none⟩) : StepCase s (stepB4 s)
  | b5 (busy : s.busy = true) (phase : s.phase = ⟨.b5, .none⟩) : StepCase s (stepB5 s)
  | b6 (busy : s.busy = true) (phase : s.phase = ⟨.b6, .none⟩) : StepCase s (stepB6 s)
  | b7 (busy : s.busy = true) (phase : s.phase = ⟨.b7, .none⟩) : StepCase s (stepB7 s)

/-- A block at rest with nothing to do waits (R53). -/
theorem step_rest_idle (s : State) (hb : s.busy = false) (hq : s.requests = []) :
    step s = .next s := by
  rw [step_of_fetch_none s (by simp [fetch, hb, hq])]
  simp [advance, hb]

/-- A block at rest runs the oldest pending request, which has then left the queue. -/
theorem step_rest_request (s : State) (r : Request) (rs : List Request) (hb : s.busy = false)
    (hq : s.requests = r :: rs) : step s = exec r.toInstr { s with requests := rs } := by
  have hd : decode r.toBytes = .ok (r.toInstr, []) := by simpa using decode_request r []
  simp [step, fetch, hb, hq, hd, State.consume]

/-- The labels of a token wait: `B3`, and `T3` of the steps that search for a register's token. -/
theorem awaitsToken_iff (p : Phase) : p.awaitsToken = true ↔
    (p.major = .b3 ∧ p.minor = .none) ∨
    (p.minor = .t3 ∧ (p.major = .x2 ∨ p.major = .i8 ∨ p.major = .i9)) := by
  obtain ⟨major, minor⟩ := p
  simp [Phase.awaitsToken, or_assoc]

theorem awaitsToken_eq_false {p : Phase} (hn : p.minor = .none → p.major ≠ .b3) (ht : p.minor ≠ .t3) :
    p.awaitsToken = false := by
  rw [Bool.eq_false_iff, ne_eq, awaitsToken_iff]
  rintro (⟨hmajor, hminor⟩ | ⟨hminor, -⟩)
  · exact hn hminor hmajor
  · exact ht hminor

theorem tokenPending_iff (s : State) : s.tokenPending = true ↔
    s.busy = true ∧ s.phase.awaitsToken = true ∧ s.rxStage = .release := by
  simp [State.tokenPending, and_assoc]

/-- In a token wait whose last byte is 0xFE, the step is the token's meaning (R109). -/
theorem step_pending_token (s : State) (hp : s.tokenPending = true) (ht : s.tok = dataStartByte) :
    step s = execDataStartToken s := by
  obtain ⟨hb, -⟩ := (tokenPending_iff s).mp hp
  simp [step, fetch, hb, hp, ht, decode, dataStartByte, State.consume, exec]

/-- Whichever row of the table a frame belongs to, its meaning is `BeginTransaction` (R161). -/
theorem exec_frameInstr (idx : BitVec 6) (arg : Word) (crc : BitVec 7) (s : State) :
    exec (frameInstr idx arg crc) s = .next (s.beginTransaction idx arg) := by
  unfold frameInstr
  split_ifs with h17 h18 h0 h8 h9 h10 h12 h55 h41 h58
  · subst h17; rfl
  · subst h18; rfl
  · obtain ⟨rfl, rfl, -⟩ := h0; rfl
  · obtain ⟨rfl, rfl, -⟩ := h8; rfl
  · obtain ⟨rfl, rfl, -⟩ := h9; rfl
  · obtain ⟨rfl, rfl, -⟩ := h10; rfl
  · obtain ⟨rfl, rfl, -⟩ := h12; rfl
  · obtain ⟨rfl, rfl, -⟩ := h55; rfl
  · obtain ⟨rfl, rfl, -⟩ := h41; rfl
  · obtain ⟨rfl, rfl, -⟩ := h58; rfl
  · rfl

/-- At a label `T1` no token can be pending, and the step sends the frame of its command. -/
theorem step_frame (s : State) (idx : BitVec 6) (arg : Word) (size : Option Nat) (hb : s.busy = true)
    (hm : s.phase.minor = .t1) (hc : s.command = some (idx, arg, size)) :
    step s = .next (s.beginTransaction idx arg) := by
  have hw : s.phase.awaitsToken = false := awaitsToken_eq_false (by simp [hm]) (by simp [hm])
  have hd : decode (frame idx arg) = .ok (frameInstr idx arg (frameCrc idx arg), []) := by
    simpa using decode_frame idx arg []
  simp [step, fetch, hb, hm, hc, hd, State.tokenPending, hw, State.consume, exec_frameInstr]

/-- At a label `T1` of a major that sends no command there is no step. -/
theorem step_frame_none (s : State) (hb : s.busy = true) (hm : s.phase.minor = .t1)
    (hc : s.command = none) : step s = .fault .strayPhase := by
  have hw : s.phase.awaitsToken = false := awaitsToken_eq_false (by simp [hm]) (by simp [hm])
  rw [step_of_fetch_none s (by simp [fetch, hb, hm, hc, State.tokenPending, hw])]
  simp [advance, hb, hm, hc]

/-- A step at a label outside the transactions is one of the eleven of `advancePlain`. -/
theorem stepCase_of_advancePlain (s t : State) (hb : s.busy = true) (hm : s.phase.minor = .none)
    (h : advancePlain s = .next t) : StepCase s t := by
  have at_label {m : Major} (hmajor : s.phase.major = m) : s.phase = ⟨m, .none⟩ := by
    rw [← hmajor, ← hm]
  unfold advancePlain at h
  split at h <;> cases h
  case h_1 hmajor => exact .k7 hb (at_label hmajor)
  case h_2 hmajor => exact .k16 hb (at_label hmajor)
  case h_3 hmajor => exact .i1 hb (at_label hmajor)
  case h_4 hmajor => exact .i2 hb (at_label hmajor)
  case h_5 hmajor => exact .i10 hb (at_label hmajor)
  case h_6 hmajor => exact .b2 hb (at_label hmajor)
  case h_7 hmajor => exact .b3 hb (at_label hmajor)
  case h_8 hmajor => exact .b4 hb (at_label hmajor)
  case h_9 hmajor => exact .b5 hb (at_label hmajor)
  case h_10 hmajor => exact .b6 hb (at_label hmajor)
  case h_11 hmajor => exact .b7 hb (at_label hmajor)

/-- A step at a label inside a transaction, `T1` apart, is one of the four of `advanceTransaction`. -/
theorem stepCase_of_advanceTransaction (s t : State) (idx : BitVec 6) (arg : Word) (size : Option Nat)
    (hb : s.busy = true) (hc : s.command = some (idx, arg, size))
    (h : advanceTransaction idx size s = .next t) : StepCase s t := by
  cases hm : s.phase.minor with
  | none => simp [advanceTransaction, hm] at h
  | t1 => simp [advanceTransaction, hm] at h
  | t2 =>
    simp only [advanceTransaction, hm] at h
    cases h
    exact .poll idx arg size hb hm hc
  | t3 =>
    simp only [advanceTransaction, hm] at h
    split_ifs at h with hw
    cases h
    exact .search hb hm hw
  | t4 =>
    cases size with
    | none => simp [advanceTransaction, hm] at h
    | some n =>
      simp only [advanceTransaction, hm] at h
      cases h
      exact .additional idx arg n hb hm hc
  | t9 =>
    simp only [advanceTransaction, hm] at h
    exact .closing hb hm h

theorem stepCase_of_advance (s t : State) (hb : s.busy = true) (h : advance s = .next t) :
    StepCase s t := by
  rw [advance, if_pos hb] at h
  split at h
  next hm => exact stepCase_of_advancePlain s t hb hm h
  next c hc _ => exact stepCase_of_advanceTransaction s t c.1 c.2.1 c.2.2 hb hc h
  next => exact .closing hb ‹s.phase.minor = .t9› h
  next => cases h

/-- Every step that answers a next state is a case of `StepCase`. -/
theorem stepCase_of_step (s t : State) (h : step s = .next t) : StepCase s t := by
  cases hb : s.busy with
  | false =>
    cases hq : s.requests with
    | nil =>
      rw [step_rest_idle s hb hq] at h
      cases h
      exact .waiting hb hq
    | cons r rs => exact .request r rs hb hq (step_rest_request s r rs hb hq ▸ h)
  | true =>
    by_cases hp : s.tokenPending = true ∧ s.tok = dataStartByte
    · exact .token hp.1 hp.2 (step_pending_token s hp.1 hp.2 ▸ h)
    by_cases hm : s.phase.minor = .t1
    · cases hc : s.command with
      | none => rw [step_frame_none s hb hm hc] at h; cases h
      | some c =>
        obtain ⟨idx, arg, size⟩ := c
        rw [step_frame s idx arg size hb hm hc] at h
        cases h
        exact .frame idx arg size hb hm hc
    · have hf : fetch s = none := by simp [fetch, hb, hm, hp]
      exact stepCase_of_advance s t hb (step_of_fetch_none s hf ▸ h)

end Sys2Proof.Machine

namespace Sys2Proof.Machine

/-! ### READ's range check and its acceptance -/

/-- The range check in the naturals, as R242 writes it. -/
theorem outOfRange_iff (start count blocks : Word) : outOfRange start count blocks = true ↔
    count.toNat = 0 ∨ blocks.toNat < start.toNat + count.toNat - 1 := by
  simp [outOfRange, BitVec.toNat_eq]

/-- The values R8 admits for `STATUS_RANGE`. -/
theorem statusRange_bounds : 0x01 ≤ Config.statusRange.toNat ∧ Config.statusRange.toNat ≤ 0xFE := by
  have hi := Config.statusRangeIndex.isLt
  rw [Config.statusRange, BitVec.toNat_ofNat, Nat.mod_eq_of_lt (by omega)]
  omega

theorem statusRange_ne_ok : Config.statusRange ≠ 0x00 := by
  intro h
  exact absurd (h ▸ statusRange_bounds) (by decide)

theorem statusRange_ne_noResponse : Config.statusRange ≠ 0xFF := by
  intro h
  exact absurd (h ▸ statusRange_bounds) (by decide)

/-- Settles O11: the two branches of the acceptance step are those of the range check. -/
theorem readRequest : Obligations.ReadRequest := by
  intro s start count buf hb
  refine ⟨{ Config.unspecifiedOperands s.freeCount with
    op := 2, start := start, count := count, buf := buf }, rfl, rfl, rfl, rfl, ?_⟩
  have accepted := accept_rest (.read start count buf)
    (fun r => { r with op := 2, start := start, count := count, buf := buf })
    (fun s => if outOfRange start count s.blocks then s.respond .errRange Config.statusRange
      else s.goto .b1 .t1) s hb
  split_ifs with range
  · rw [← outOfRange_iff] at range
    simp only [range, if_true] at accepted
    exact ⟨accepted, statusRange_ne_ok, statusRange_ne_noResponse⟩
  · rw [← outOfRange_iff] at range
    simp only [range] at accepted
    exact accepted

/-! ### The steps of INIT outside transactions -/

/-- The step at a label outside the transactions, `B3` apart, where a token may be pending. -/
theorem step_plain (s : State) (hb : s.busy = true) (hm : s.phase.minor = .none)
    (h3 : s.phase.major ≠ .b3) : step s = advancePlain s := by
  have hw : s.phase.awaitsToken = false := awaitsToken_eq_false (fun _ => h3) (by simp [hm])
  rw [step_busy s hb (by simp [hm]) (.inl hw), advance, if_pos hb, hm]

/-- Settles O29: each of the three labels has its one event (R204, R205, R216). -/
theorem initClockSteps : Obligations.InitClockSteps := by
  intro s hb hm
  refine ⟨fun major => ?_, fun major => ?_, fun major => ?_⟩ <;>
    rw [step_plain s hb hm (by simp [major]), advancePlain, major] <;> rfl

end Sys2Proof.Machine

namespace Sys2Proof.Machine

/-! ### Where the events of a step come from

Every part of the machine that runs after the event of its step raises no event of its own but the response
(R31): `State.silentOrAnswered` says so, once for each of them. -/

/-- `t` has the history `h`, or `h` and the response that its result registers hold (R31). -/
def State.silentOrAnswered (t : State) (h : List Event) : Prop :=
  t.history = h ∨ ∃ k st, t.answered k st ∧ t.history = .response k st :: h

theorem respond_silentOrAnswered (u : State) (k : Kind) (st : Byte) :
    (u.respond k st).silentOrAnswered u.history :=
  .inr ⟨k, st, ⟨rfl, rfl, rfl, rfl⟩, rfl⟩

theorem afterX1_silentOrAnswered (s : State) : (afterX1 s).silentOrAnswered s.history := by
  unfold afterX1
  split_ifs <;> exact respond_silentOrAnswered s _ _

theorem afterX2_silentOrAnswered (s : State) : (afterX2 s).silentOrAnswered s.history := by
  unfold afterX2
  split_ifs <;> exact respond_silentOrAnswered s _ _

theorem afterI3_silentOrAnswered (s : State) : (afterI3 s).silentOrAnswered s.history := by
  unfold afterI3
  split_ifs
  · exact respond_silentOrAnswered s _ _
  · exact .inl rfl

theorem afterI4_silentOrAnswered (s : State) : (afterI4 s).silentOrAnswered s.history := by
  unfold afterI4
  split_ifs
  · exact .inl rfl
  · exact .inl rfl
  · exact respond_silentOrAnswered s _ _
  · exact respond_silentOrAnswered s _ _

theorem loopHead_silentOrAnswered (s : State) : (loopHead s).silentOrAnswered s.history := by
  unfold loopHead
  split_ifs
  · exact respond_silentOrAnswered s _ _
  · exact .inl rfl

theorem afterI5_silentOrAnswered (s : State) : (afterI5 s).silentOrAnswered s.history := by
  unfold afterI5
  dsimp only
  split_ifs
  · exact respond_silentOrAnswered s _ _
  · exact loopHead_silentOrAnswered _
  · exact respond_silentOrAnswered _ _ _

theorem afterI6b_silentOrAnswered (s : State) : (afterI6b s).silentOrAnswered s.history := by
  unfold afterI6b
  dsimp only
  split_ifs
  · exact .inl rfl
  · exact .inl rfl
  · exact loopHead_silentOrAnswered _

theorem afterI7_silentOrAnswered (s : State) : (afterI7 s).silentOrAnswered s.history := by
  unfold afterI7
  dsimp only
  split_ifs
  · exact respond_silentOrAnswered s _ _
  · exact .inl rfl
  · exact respond_silentOrAnswered _ _ _

theorem afterI9_silentOrAnswered (s : State) : (afterI9 s).silentOrAnswered s.history := by
  unfold afterI9
  dsimp only
  split_ifs
  · exact respond_silentOrAnswered s _ _
  · exact respond_silentOrAnswered s _ _
  · exact respond_silentOrAnswered _ _ _
  · exact .inl rfl

/-- What follows the closing `Toggle(1)` raises at most the response. -/
theorem afterTransaction_silentOrAnswered (s t : State) (h : afterTransaction s = .next t) :
    t.silentOrAnswered s.history := by
  unfold afterTransaction at h
  split at h <;> cases h
  case h_1 => exact afterX1_silentOrAnswered s
  case h_2 => exact afterX2_silentOrAnswered s
  case h_3 => exact afterI3_silentOrAnswered s
  case h_4 => exact afterI4_silentOrAnswered s
  case h_5 => exact afterI5_silentOrAnswered s
  case h_6 => exact .inl rfl
  case h_7 => exact afterI6b_silentOrAnswered s
  case h_8 => exact afterI7_silentOrAnswered s
  case h_9 => exact .inl rfl
  case h_10 => exact afterI9_silentOrAnswered s
  case h_11 => exact respond_silentOrAnswered s _ _

theorem afterB1_history (s : State) : (afterB1 s).history = s.history := by
  unfold afterB1
  split_ifs <;> rfl

theorem afterB7_history (s : State) : (afterB7 s).history = s.history := by
  unfold afterB7
  split_ifs <;> rfl

theorem afterPoll_history (idx : BitVec 6) (size : Option Nat) (s : State) :
    (afterPoll idx size s).history = s.history := by
  unfold afterPoll
  split
  · exact afterB1_history s
  · rfl
  · rfl
  · dsimp only
    split_ifs <;> rfl

/-- A request that is taken finds the block at rest and raises at most its response at once, when the
operation's own part does (R24, R38). -/
theorem accept_events {i : Instr} {load : Request → Request} {run : State → State} {s t : State}
    (hrun : ∀ u, (run u).silentOrAnswered u.history) (h : accept i load run s = .next t) :
    s.busy = false ∧ t.silentOrAnswered (.request i :: s.history) := by
  cases hb : s.busy with
  | true => rw [accept_busy _ _ _ _ hb] at h; cases h
  | false =>
    rw [accept_rest _ _ _ _ hb] at h
    cases h
    exact ⟨rfl, hrun _⟩

theorem answerReserved_events {i : Instr} {s t : State} (h : answerReserved i s = .next t) :
    s.busy = false ∧ t.silentOrAnswered (.request i :: s.history) := by
  unfold answerReserved at h
  split_ifs at h with hb
  cases h
  exact ⟨Bool.eq_false_iff.mpr hb, respond_silentOrAnswered _ _ _⟩

/-- The meaning of every host request: the request event, and at most the response. -/
theorem exec_request_events {r : Request} {s t : State} (h : exec r.toInstr s = .next t) :
    s.busy = false ∧ t.silentOrAnswered (.request r.toInstr :: s.history) := by
  unfold Request.toInstr at h ⊢
  split_ifs at h ⊢
  · simp only [exec, execInit] at h
    refine accept_events (fun u => ?_) h
    exact .inl rfl
  · simp only [exec, execRead] at h
    refine accept_events (fun u => ?_) h
    split_ifs
    · exact respond_silentOrAnswered u _ _
    · exact .inl rfl
  · simp only [exec, execCmd] at h
    refine accept_events (fun u => ?_) h
    exact .inl rfl
  · simp only [exec, execCmdr] at h
    refine accept_events (fun u => ?_) h
    split_ifs
    · exact respond_silentOrAnswered u _ _
    · exact .inl rfl
  · simp only [exec, execCrc7] at h
    refine accept_events (fun u => ?_) h
    split_ifs
    · exact respond_silentOrAnswered _ _ _
    · exact .inl rfl
  · simp only [exec, execCrc16] at h
    refine accept_events (fun u => ?_) h
    split_ifs
    · exact respond_silentOrAnswered _ _ _
    · exact .inl rfl
  · exact answerReserved_events h
  · exact answerReserved_events h

/-- The events the step from `s` to `t` appended, as O60 asks: at most two, each with its source. -/
def State.eventsAccounted (s t : State) : Prop :=
  ∃ new, t.history = new ++ s.history ∧ new.length ≤ 2 ∧ ∀ e ∈ new, e.comesFrom s t

/-- One event with its source, then at most the response. -/
theorem eventsAccounted_of_event {s t : State} (e : Event) (source : e.comesFrom s t)
    (h : t.silentOrAnswered (e :: s.history)) : s.eventsAccounted t := by
  rcases h with h | ⟨k, st, answered, h⟩
  · exact ⟨[e], h, by simp, by simpa using source⟩
  · refine ⟨[.response k st, e], h, by simp, ?_⟩
    simp only [List.mem_cons, List.not_mem_nil, or_false, forall_eq_or_imp, forall_eq]
    exact ⟨answered, source⟩

/-- The three events of `RxBytes` at a label that reads, when neither the storing of the bytes nor what
follows raises one (R17, R175). -/
theorem rxBytes_eventsAccounted {n : Nat} {store : List Byte → State → State} {after : State → State}
    {s : State} (hb : s.busy = true) (hr : s.phase.reads = true)
    (hstore : ∀ bs u, (store bs u).history = u.history)
    (hafter : ∀ u, (after u).history = u.history) :
    s.eventsAccounted (rxBytes n store after s) := by
  cases hs : s.rxStage with
  | hold =>
    rw [rxBytes_hold _ _ _ _ hs]
    exact eventsAccounted_of_event (.holdMosi true) ⟨hb, rfl, hr, hs⟩ (.inl rfl)
  | read =>
    rw [rxBytes_read _ _ _ _ hs]
    exact eventsAccounted_of_event (.readContinue (s.incoming n)) ⟨hb, hr, hs⟩ (.inl (hstore _ _))
  | release =>
    rw [rxBytes_release _ _ _ _ hs]
    exact eventsAccounted_of_event .releaseMosi ⟨hb, hr, hs⟩ (.inl (hafter _))

theorem reads_of_awaitsToken {p : Phase} (h : p.awaitsToken = true) : p.reads = true := by
  rcases (awaitsToken_iff p).mp h with ⟨hmajor, -⟩ | ⟨hminor, -⟩
  · simp [Phase.reads, hmajor]
  · simp [Phase.reads, hminor]

/-- The token's step is the `ReleaseMosi` of its wait (R109). -/
theorem token_eventsAccounted {s t : State} (hp : s.tokenPending = true)
    (h : execDataStartToken s = .next t) : s.eventsAccounted t := by
  obtain ⟨hb, hw, hs⟩ := (tokenPending_iff s).mp hp
  have source : Event.comesFrom s t .releaseMosi := ⟨hb, reads_of_awaitsToken hw, hs⟩
  rw [execDataStartToken, if_pos hp] at h
  dsimp only at h
  split_ifs at h <;> cases h <;> exact eventsAccounted_of_event _ source (.inl rfl)

theorem stepK7_silentOrAnswered (s : State) :
    (stepK7 s).silentOrAnswered (s.memRead s.k.toNat).history := by
  unfold stepK7
  dsimp only
  split_ifs
  · exact respond_silentOrAnswered _ _ _
  · exact .inl rfl

theorem stepK16_silentOrAnswered (s : State) :
    (stepK16 s).silentOrAnswered (s.memRead s.k.toNat).history := by
  unfold stepK16
  dsimp only
  split_ifs
  · exact respond_silentOrAnswered _ _ _
  · exact .inl rfl

theorem stepB4_history (s : State) : (stepB4 s).history = .tick s.nextTick :: s.history := by
  unfold stepB4
  dsimp only
  split_ifs <;> rfl

theorem stepB4_now (s : State) : (stepB4 s).now = s.nextTick := by
  unfold stepB4
  dsimp only
  split_ifs <;> rfl

theorem stepB6_history (s : State) :
    (stepB6 s).history = .memWrite s.ops.buf s.off s.pay[s.j.toNat] :: s.history := by
  unfold stepB6
  dsimp only
  split_ifs <;> rfl

/-- Settles O60, by cases on the place the step starts from: each has one event, the request at rest or
that of the label, and at most the response after it. -/
theorem eventSources : Obligations.EventSources := by
  intro s t h
  change s.eventsAccounted t
  cases stepCase_of_step s t h with
  | waiting hb => exact ⟨[], rfl, by simp, by simp⟩
  | request r rs hb hq he => exact eventsAccounted_of_event (.request _) hb (exec_request_events he).2
  | token hp ht he => exact token_eventsAccounted hp he
  | frame idx arg size hb hm hc =>
    exact eventsAccounted_of_event (.writeContinue (frame idx arg))
      ⟨hb, hm, idx, arg, size, hc, rfl⟩ (.inl rfl)
  | poll idx arg size hb hm hc =>
    refine rxBytes_eventsAccounted hb (by simp [Phase.reads, hm]) (fun _ _ => rfl) (fun u => ?_)
    dsimp only
    split_ifs
    · exact afterPoll_history _ _ _
    · rfl
  | search hb hm hw =>
    refine rxBytes_eventsAccounted hb (by simp [Phase.reads, hm]) (fun _ _ => rfl) (fun u => ?_)
    dsimp only
    split_ifs <;> rfl
  | additional idx arg n hb hm hc =>
    exact rxBytes_eventsAccounted hb (by simp [Phase.reads, hm]) (fun _ _ => rfl) (fun _ => rfl)
  | closing hb hm he =>
    exact eventsAccounted_of_event (.toggle Config.endToggleBytes) ⟨hb, .inr ⟨hm, rfl⟩⟩
      (afterTransaction_silentOrAnswered _ _ he)
  | k7 hb hp =>
    exact eventsAccounted_of_event (.memRead _ _ _) ⟨hb, .inl (by rw [hp]), rfl, rfl, rfl⟩
      (stepK7_silentOrAnswered s)
  | k16 hb hp =>
    exact eventsAccounted_of_event (.memRead _ _ _) ⟨hb, .inr (by rw [hp]), rfl, rfl, rfl⟩
      (stepK16_silentOrAnswered s)
  | i1 hb hp =>
    exact eventsAccounted_of_event (.setClock _) ⟨hb, .inl ⟨by rw [hp], rfl⟩⟩ (.inl rfl)
  | i2 hb hp =>
    exact eventsAccounted_of_event (.toggle _) ⟨hb, .inl ⟨by rw [hp], rfl⟩⟩ (.inl rfl)
  | i10 hb hp =>
    exact eventsAccounted_of_event (.setClock _) ⟨hb, .inr ⟨by rw [hp], rfl, rfl, rfl⟩⟩
      (respond_silentOrAnswered _ _ _)
  | b2 hb hp =>
    exact eventsAccounted_of_event (.tick _) ⟨hb, .inl ⟨by rw [hp], rfl⟩⟩ (.inl rfl)
  | b3 hb hp =>
    exact rxBytes_eventsAccounted hb (by rw [hp]; rfl) (fun _ _ => rfl) (fun _ => rfl)
  | b4 hb hp =>
    exact eventsAccounted_of_event (.tick _) ⟨hb, .inr ⟨by rw [hp], stepB4_now s⟩⟩
      (.inl (stepB4_history s))
  | b5 hb hp =>
    exact rxBytes_eventsAccounted hb (by rw [hp]; rfl) (fun _ _ => rfl) (fun _ => rfl)
  | b6 hb hp =>
    exact eventsAccounted_of_event (.memWrite _ _ _) ⟨hb, by rw [hp], rfl, rfl, rfl⟩
      (.inl (stepB6_history s))
  | b7 hb hp =>
    exact rxBytes_eventsAccounted hb (by rw [hp]; rfl) (fun _ _ => rfl) afterB7_history

end Sys2Proof.Machine

namespace Sys2Proof.Machine

/-! ### The next state of every step, written out

`StepCase` names the function a step runs. Here the branches of those functions are written out once, each
with its exact next state, so that an invariant is proved by cases and never unfolds them. -/

/-- `s` after the `ReleaseMosi` that ends an `RxBytes` (R17). -/
def State.readDone (s : State) : State := { s.releaseMosi with rxStage := .hold }

/-- The steps of INIT after which a `SendCommandWithResult` begins, and the step it begins at (R202). -/
def Major.nextCall : Major → Option Major
  | .i3 => some .i4
  | .i4 => some .i5
  | .i6b => some .i7
  | .i7 => some .i8
  | .i8 => some .i9
  | _ => none

/-- What follows the closing `Toggle(1)` of a transaction (R166), by where the operation goes. -/
inductive ClosingCase (s : State) : State → Prop
  | answers (ocr : Word) (iter : Nat) (acc16 : Half) (k : Kind) (st : Byte) :
      ClosingCase s ({ s with ocr := ocr, iter := iter, acc16 := acc16 }.ended k st)
  | calls (major : Major) (v2 : Bool) (iter : Nat) (ocr : Word) (ccsNew : Bool)
      (edge : s.phase.major.nextCall = some major) :
      ClosingCase s { s.closed major .t1 with
        tokenMissing := false, v2 := v2, iter := iter, ocr := ocr, ccsNew := ccsNew }
  | pass (iter : Nat) (ocr : Word)
      (edge : s.phase.major = .i5 ∧ iter = 0 ∨ s.phase.major = .i6b ∧ iter = s.iter + 1)
      (room : iterExhausted iter = false) :
      ClosingCase s { s.closed .i6a .t1 with iter := iter, ocr := ocr }
  | acmd41 (edge : s.phase.major = .i6a) : ClosingCase s (s.closed .i6b .t1)
  | v1Ready (edge : s.phase.major = .i6b) :
      ClosingCase s { s.closed .i10 .none with iter := s.iter + 1 }
  | commits (edge : s.phase.major = .i9) (r1 : s.r1 = 0x00) (token : s.tokenMissing = false)
      (crc : csdCrc s.resp = csdRxCrc s.resp) :
      ClosingCase s { s.closed .i10 .none with
        acc16 := csdCrc s.resp, blocks := blockCount (cSize s.resp), ccs := s.ccsNew }

/-- An answer that leaves every other register (R31). -/
theorem ClosingCase.answer (s : State) (k : Kind) (st : Byte) : ClosingCase s (s.ended k st) :=
  .answers s.ocr s.iter s.acc16 k st

theorem closingCase_afterX1 (s : State) : ClosingCase s (afterX1 (s.toggle 1)) := by
  unfold afterX1
  split_ifs <;> exact .answer s _ _

theorem closingCase_afterX2 (s : State) : ClosingCase s (afterX2 (s.toggle 1)) := by
  unfold afterX2
  split_ifs <;> exact .answer s _ _

theorem closingCase_afterI3 (s : State) (major : s.phase.major = .i3) :
    ClosingCase s (afterI3 (s.toggle 1)) := by
  unfold afterI3
  split_ifs
  · exact .answer s _ _
  · exact .calls .i4 s.v2 s.iter s.ocr s.ccsNew (by rw [major]; rfl)

theorem closingCase_afterI4 (s : State) (major : s.phase.major = .i4) :
    ClosingCase s (afterI4 (s.toggle 1)) := by
  have edge : s.phase.major.nextCall = some .i5 := by rw [major]; rfl
  unfold afterI4
  split_ifs
  · exact .calls .i5 false s.iter s.ocr s.ccsNew edge
  · exact .calls .i5 true s.iter s.ocr s.ccsNew edge
  · exact .answer s _ _
  · exact .answer s _ _

/-- The bound is tested before each pass of the loop (R213). -/
theorem closingCase_loopHead (s : State) (iter : Nat) (ocr : Word)
    (edge : s.phase.major = .i5 ∧ iter = 0 ∨ s.phase.major = .i6b ∧ iter = s.iter + 1) :
    ClosingCase s (loopHead { s.toggle 1 with iter := iter, ocr := ocr }) := by
  unfold loopHead
  split_ifs with full
  · exact .answers ocr iter s.acc16 _ _
  · exact .pass iter ocr edge (by simpa using full)

theorem closingCase_afterI5 (s : State) (major : s.phase.major = .i5) :
    ClosingCase s (afterI5 (s.toggle 1)) := by
  unfold afterI5
  dsimp only
  split_ifs
  · exact .answer s _ _
  · exact closingCase_loopHead s 0 (ocrOf s.resp) (.inl ⟨major, rfl⟩)
  · exact .answers (ocrOf s.resp) s.iter s.acc16 _ _

theorem closingCase_afterI6b (s : State) (major : s.phase.major = .i6b) :
    ClosingCase s (afterI6b (s.toggle 1)) := by
  unfold afterI6b
  dsimp only
  split_ifs
  · exact .calls .i7 s.v2 (s.iter + 1) s.ocr s.ccsNew (by rw [major]; rfl)
  · exact .v1Ready major
  · exact closingCase_loopHead s (s.iter + 1) s.ocr (.inr ⟨major, rfl⟩)

theorem closingCase_afterI7 (s : State) (major : s.phase.major = .i7) :
    ClosingCase s (afterI7 (s.toggle 1)) := by
  unfold afterI7
  dsimp only
  split_ifs
  · exact .answer s _ _
  · exact .calls .i8 s.v2 s.iter (ocrOf s.resp) (ocrCcs (ocrOf s.resp)) (by rw [major]; rfl)
  · exact .answers (ocrOf s.resp) s.iter s.acc16 _ _

theorem closingCase_afterI9 (s : State) (major : s.phase.major = .i9) :
    ClosingCase s (afterI9 (s.toggle 1)) := by
  unfold afterI9
  dsimp only
  split_ifs with r1 token crc
  · exact .answer s _ _
  · exact .answer s _ _
  · exact .answers s.ocr s.iter (csdCrc s.resp) _ _
  · exact .commits major (not_not.mp r1) (Bool.eq_false_iff.mpr token) (not_not.mp crc)

theorem closingCase_of_afterTransaction {s t : State}
    (h : afterTransaction (s.toggle Config.endToggleBytes) = .next t) : ClosingCase s t := by
  unfold afterTransaction at h
  split at h <;> cases h
  case h_1 => exact closingCase_afterX1 s
  case h_2 => exact closingCase_afterX2 s
  case h_3 major => exact closingCase_afterI3 s major
  case h_4 major => exact closingCase_afterI4 s major
  case h_5 major => exact closingCase_afterI5 s major
  case h_6 major => exact .acmd41 major
  case h_7 major => exact closingCase_afterI6b s major
  case h_8 major => exact closingCase_afterI7 s major
  case h_9 major => exact .calls .i9 s.v2 s.iter s.ocr s.ccsNew (by
      rw [show s.phase.major = .i8 from major]; rfl)
  case h_10 major => exact closingCase_afterI9 s major
  case h_11 => exact .answer s _ _

/-- How many bytes the read of a label asks for (R71). -/
inductive ReadSize (s : State) : Nat → Prop
  | poll (minor : s.phase.minor = .t2) : ReadSize s 1
  | search (minor : s.phase.minor = .t3) : ReadSize s 1
  | additional (idx : BitVec 6) (arg : Word) (n : Nat) (minor : s.phase.minor = .t4)
      (command : s.command = some (idx, arg, some n)) : ReadSize s (n - 1)
  | token (phase : s.phase = ⟨.b3, .none⟩) : ReadSize s 1
  | payload (phase : s.phase = ⟨.b5, .none⟩) : ReadSize s Config.blockLen
  | crc (phase : s.phase = ⟨.b7, .none⟩) : ReadSize s 2

theorem ReadSize.reads {s : State} {n : Nat} (h : ReadSize s n) : s.phase.reads = true := by
  cases h with
  | poll minor => simp [Phase.reads, minor]
  | search minor => simp [Phase.reads, minor]
  | additional idx arg n minor command => simp [Phase.reads, minor]
  | token phase => simp [Phase.reads, phase]
  | payload phase => simp [Phase.reads, phase]
  | crc phase => simp [Phase.reads, phase]

/-- The steps of a busy block, one constructor for each branch of the pseudocode. -/
inductive BusyCase (s : State) : State → Prop
  | frame (idx : BitVec 6) (arg : Word) (size : Option Nat) (minor : s.phase.minor = .t1)
      (command : s.command = some (idx, arg, size)) : BusyCase s (s.beginTransaction idx arg)
  | hold (n : Nat) (size : ReadSize s n) (stage : s.rxStage = .hold) :
      BusyCase s { s.holdMosi with rxStage := .read }
  | read (n : Nat) (size : ReadSize s n) (stage : s.rxStage = .read) (r1 tok : Byte)
      (resp : Vector Byte 18) (pay : Vector Byte 512) (rxCrc : Half) :
      BusyCase s { s.readContinue n with
        rxStage := .release, r1 := r1, tok := tok, resp := resp, pay := pay, rxCrc := rxCrc }
  | pollAgain (minor : s.phase.minor = .t2 ∨ s.phase.minor = .t3) (more : s.attempt + 1 ≠ 8) :
      BusyCase s { s.readDone with attempt := s.attempt + 1 }
  | b1Failed (phase : s.phase = ⟨.b1, .t2⟩) :
      BusyCase s { s.readDone with attempt := s.attempt + 1, phase := ⟨.b9, .t9⟩ }
  | b1Ready (phase : s.phase = ⟨.b1, .t2⟩) :
      BusyCase s { s.readDone with attempt := s.attempt + 1, blkI := 0, phase := ⟨.b2, .none⟩ }
  | b8Done (phase : s.phase = ⟨.b8, .t2⟩) :
      BusyCase s { s.readDone with attempt := s.attempt + 1, phase := ⟨.b9, .t9⟩ }
  | commandDone (idx : BitVec 6) (arg : Word) (minor : s.phase.minor = .t2)
      (command : s.command = some (idx, arg, none)) (b1 : s.phase.major ≠ .b1) (b8 : s.phase.major ≠ .b8) :
      BusyCase s { s.readDone with attempt := s.attempt + 1, phase := ⟨s.phase.major, .t9⟩ }
  | callDone (idx : BitVec 6) (arg : Word) (n : Nat) (minor : s.phase.minor = .t2)
      (command : s.command = some (idx, arg, some n)) :
      BusyCase s { s.readDone with
        attempt := s.attempt + 1, tokenMissing := false, phase := ⟨s.phase.major, .t9⟩ }
  | callReads (idx : BitVec 6) (arg : Word) (n : Nat) (minor : s.phase.minor = .t2)
      (command : s.command = some (idx, arg, some n)) (more : 1 < n) :
      BusyCase s { s.readDone with
        attempt := s.attempt + 1, tokenMissing := false, phase := ⟨s.phase.major, .t4⟩ }
  | callSearches (idx : BitVec 6) (arg : Word) (n : Nat) (minor : s.phase.minor = .t2)
      (command : s.command = some (idx, arg, some n)) (more : 1 < n) (wrapped : tokenWrapped idx = true) :
      BusyCase s { s.readDone with attempt := 0, tokenMissing := false, phase := ⟨s.phase.major, .t3⟩ }
  | searchFailed (minor : s.phase.minor = .t3) :
      BusyCase s { s.readDone with
        attempt := s.attempt + 1, tokenMissing := true, phase := ⟨s.phase.major, .t9⟩ }
  | searchFound (minor : s.phase.minor = .t3) :
      BusyCase s { s.readDone with attempt := s.attempt + 1, phase := ⟨s.phase.major, .t4⟩ }
  | additionalDone (idx : BitVec 6) (arg : Word) (n : Nat) (minor : s.phase.minor = .t4)
      (command : s.command = some (idx, arg, some n)) :
      BusyCase s { s.readDone with phase := ⟨s.phase.major, .t9⟩ }
  | closing {t : State} (minor : s.phase.minor = .t9) (goes : ClosingCase s t) : BusyCase s t
  | source7 (phase : s.phase = ⟨.k7, .none⟩) (more : s.k + 1 ≠ s.ops.len) :
      BusyCase s { s.memRead s.k.toNat with
        acc7 := acc7Step s.acc7 (s.srcByte s.k.toNat), k := s.k + 1 }
  | source7Done (phase : s.phase = ⟨.k7, .none⟩) (crcOut : Half) :
      BusyCase s ({ s.memRead s.k.toNat with
        acc7 := acc7Step s.acc7 (s.srcByte s.k.toNat), k := s.k + 1, crcOut := crcOut }.respond
          .ok Config.statusOk)
  | source16 (phase : s.phase = ⟨.k16, .none⟩) (more : s.k + 1 ≠ s.ops.len) :
      BusyCase s { s.memRead s.k.toNat with
        acc16 := acc16Step s.acc16 (s.srcByte s.k.toNat), k := s.k + 1 }
  | source16Done (phase : s.phase = ⟨.k16, .none⟩) (crcOut : Half) :
      BusyCase s ({ s.memRead s.k.toNat with
        acc16 := acc16Step s.acc16 (s.srcByte s.k.toNat), k := s.k + 1, crcOut := crcOut }.respond
          .ok Config.statusOk)
  | i1 (phase : s.phase = ⟨.i1, .none⟩) : BusyCase s (stepI1 s)
  | i2 (phase : s.phase = ⟨.i2, .none⟩) : BusyCase s (stepI2 s)
  | i10 (phase : s.phase = ⟨.i10, .none⟩) : BusyCase s (stepI10 s)
  | waitBegins (phase : s.phase = ⟨.b2, .none⟩) : BusyCase s (stepB2 s)
  | waitToken (phase : s.phase = ⟨.b3, .none⟩) : BusyCase s { s.readDone with phase := ⟨.b5, .none⟩ }
  | waitOther (phase : s.phase = ⟨.b3, .none⟩) (tok : s.tok ≠ dataStartByte) :
      BusyCase s { s.readDone with phase := ⟨.b4, .none⟩ }
  | waitTick (phase : s.phase = ⟨.b4, .none⟩) (major : Major) (minor : Minor)
      (goes : major = .b3 ∧ minor = .none ∨ major = .b5 ∧ minor = .none ∨ major = .b9 ∧ minor = .t9) :
      BusyCase s { s.readTick with now := s.nextTick, phase := ⟨major, minor⟩ }
  | payloadRead (phase : s.phase = ⟨.b5, .none⟩) :
      BusyCase s { s.readDone with acc16 := 0, j := 0, phase := ⟨.b6, .none⟩ }
  | payloadByte (phase : s.phase = ⟨.b6, .none⟩) (major : Major) (goes : major = .b6 ∨ major = .b7) :
      BusyCase s { s.memWrite s.off s.pay[s.j.toNat] with
        acc16 := acc16Step s.acc16 s.pay[s.j.toNat], j := s.j + 1, phase := ⟨major, .none⟩ }
  | nextBlock (phase : s.phase = ⟨.b7, .none⟩) (more : s.blkI.toNat + 1 < s.ops.count.toNat) :
      BusyCase s { s.readDone with blkI := s.blkI + 1, phase := ⟨.b2, .none⟩ }
  | stopsReading (phase : s.phase = ⟨.b7, .none⟩) (many : 1 < s.ops.count.toNat) :
      BusyCase s { s.readDone with phase := ⟨.b8, .t1⟩ }
  | endsReading (phase : s.phase = ⟨.b7, .none⟩) :
      BusyCase s { s.readDone with phase := ⟨.b9, .t9⟩ }

/-- The three events of an `RxBytes` whose bytes go to one of the receiving registers. -/
theorem busyCase_rxBytes {s : State} {n : Nat} {store : List Byte → State → State} {after : State → State}
    (size : ReadSize s n)
    (stores : ∀ bs u, ∃ r1 tok resp pay rxCrc,
      store bs u = { u with r1 := r1, tok := tok, resp := resp, pay := pay, rxCrc := rxCrc })
    (goes : s.rxStage = .release → BusyCase s (after s.readDone)) :
    BusyCase s (rxBytes n store after s) := by
  cases stage : s.rxStage with
  | hold =>
    rw [rxBytes_hold _ _ _ _ stage]
    exact .hold n size stage
  | read =>
    rw [rxBytes_read _ _ _ _ stage]
    obtain ⟨r1, tok, resp, pay, rxCrc, stored⟩ := stores (s.incoming n) (s.readContinue n)
    rw [stored]
    exact .read n size stage r1 tok resp pay rxCrc
  | release =>
    rw [rxBytes_release _ _ _ _ stage]
    exact goes stage

theorem phase_eq {s : State} {major : Major} {minor : Minor} (h : s.phase.major = major)
    (h' : s.phase.minor = minor) : s.phase = ⟨major, minor⟩ := by
  rw [← h, ← h']

theorem busyCase_afterPoll {s : State} {idx : BitVec 6} {arg : Word} {size : Option Nat}
    (minor : s.phase.minor = .t2) (command : s.command = some (idx, arg, size)) :
    BusyCase s (afterPoll idx size { s.readDone with attempt := s.attempt + 1 }) := by
  unfold afterPoll
  split
  next major =>
    unfold afterB1
    split_ifs
    · exact .b1Failed (phase_eq major minor)
    · exact .b1Ready (phase_eq major minor)
  next major => exact .b8Done (phase_eq major minor)
  next b1 b8 => exact .commandDone idx arg minor command b1 b8
  next n b1 b8 =>
    dsimp only
    split_ifs with more wrapped
    · exact .callSearches idx arg n minor command more wrapped
    · exact .callReads idx arg n minor command more
    · exact .callDone idx arg n minor command

theorem busyCase_stepT2 {s : State} {idx : BitVec 6} {arg : Word} {size : Option Nat}
    (minor : s.phase.minor = .t2) (command : s.command = some (idx, arg, size)) :
    BusyCase s (stepT2 idx size s) := by
  refine busyCase_rxBytes (.poll minor)
    (fun bs u => ⟨bs.headD 0, u.tok, u.resp, u.pay, u.rxCrc, rfl⟩) (fun _ => ?_)
  dsimp only
  split_ifs with ends
  · exact busyCase_afterPoll minor command
  · refine .pollAgain (.inl minor) (fun last => ends ?_)
    rw [pollEnds, Bool.or_eq_true, beq_iff_eq]
    exact .inr last

theorem busyCase_stepT3 {s : State} (minor : s.phase.minor = .t3) : BusyCase s (stepT3 s) := by
  refine busyCase_rxBytes (.search minor)
    (fun bs u => ⟨u.r1, bs.headD 0, u.resp, u.pay, u.rxCrc, rfl⟩) (fun _ => ?_)
  dsimp only
  split_ifs with last
  · exact .searchFailed minor
  · exact .pollAgain (.inr minor) last

theorem busyCase_stepT4 {s : State} {idx : BitVec 6} {arg : Word} {n : Nat}
    (minor : s.phase.minor = .t4) (command : s.command = some (idx, arg, some n)) :
    BusyCase s (stepT4 n s) :=
  busyCase_rxBytes (.additional idx arg n minor command)
    (fun bs u => ⟨u.r1, u.tok, storeFrom u.resp 0 bs, u.pay, u.rxCrc, rfl⟩)
    (fun _ => .additionalDone idx arg n minor command)

theorem busyCase_token {s t : State} (pending : s.tokenPending = true)
    (h : execDataStartToken s = .next t) : BusyCase s t := by
  obtain ⟨-, waits, -⟩ := (tokenPending_iff s).mp pending
  rw [execDataStartToken, if_pos pending] at h
  dsimp only at h
  rcases (awaitsToken_iff _).mp waits with ⟨major, minor⟩ | ⟨minor, major⟩
  · rw [if_pos (by exact major)] at h
    cases h
    exact .waitToken (phase_eq major minor)
  · rw [if_neg (by rcases major with h | h | h <;> simp [h])] at h
    cases h
    exact .searchFound minor

theorem busyCase_stepK7 {s : State} (phase : s.phase = ⟨.k7, .none⟩) : BusyCase s (stepK7 s) := by
  unfold stepK7
  dsimp only
  split_ifs with last
  · exact .source7Done phase _
  · exact .source7 phase last

theorem busyCase_stepK16 {s : State} (phase : s.phase = ⟨.k16, .none⟩) : BusyCase s (stepK16 s) := by
  unfold stepK16
  dsimp only
  split_ifs with last
  · exact .source16Done phase _
  · exact .source16 phase last

theorem busyCase_stepB3 {s : State} (phase : s.phase = ⟨.b3, .none⟩)
    (other : s.rxStage = .release → s.tok ≠ dataStartByte) : BusyCase s (stepB3 s) :=
  busyCase_rxBytes (.token phase) (fun bs u => ⟨u.r1, bs.headD 0, u.resp, u.pay, u.rxCrc, rfl⟩)
    (fun stage => .waitOther phase (other stage))

theorem busyCase_stepB4 {s : State} (phase : s.phase = ⟨.b4, .none⟩) : BusyCase s (stepB4 s) := by
  unfold stepB4
  dsimp only
  split_ifs
  · exact .waitTick phase .b9 .t9 (.inr (.inr ⟨rfl, rfl⟩))
  · exact .waitTick phase .b5 .none (.inr (.inl ⟨rfl, rfl⟩))
  · exact .waitTick phase .b3 .none (.inl ⟨rfl, rfl⟩)

theorem busyCase_stepB5 {s : State} (phase : s.phase = ⟨.b5, .none⟩) : BusyCase s (stepB5 s) :=
  busyCase_rxBytes (.payload phase)
    (fun bs u => ⟨u.r1, u.tok, u.resp, storeFrom u.pay 0 bs, u.rxCrc, rfl⟩) (fun _ => .payloadRead phase)

theorem busyCase_stepB6 {s : State} (phase : s.phase = ⟨.b6, .none⟩) : BusyCase s (stepB6 s) := by
  have goesOn := BusyCase.payloadByte phase .b6 (.inl rfl)
  have complete := BusyCase.payloadByte phase .b7 (.inr rfl)
  rw [← phase] at goesOn
  unfold stepB6
  dsimp only
  split_ifs
  · exact complete
  · exact goesOn

theorem busyCase_stepB7 {s : State} (phase : s.phase = ⟨.b7, .none⟩) : BusyCase s (stepB7 s) := by
  refine busyCase_rxBytes (.crc phase)
    (fun bs u => ⟨u.r1, u.tok, u.resp, u.pay, be16 (bs.getD 0 0) (bs.getD 1 0), rfl⟩) (fun _ => ?_)
  unfold afterB7
  split_ifs with wrong more many
  · exact .endsReading phase
  · exact .nextBlock phase more
  · exact .stopsReading phase many
  · exact .endsReading phase

/-- Every step of a busy block is a case of `BusyCase`. -/
theorem busyCase_of_step {s t : State} (hb : s.busy = true) (h : step s = .next t) : BusyCase s t := by
  by_cases token : s.tokenPending = true ∧ s.tok = dataStartByte
  · exact busyCase_token token.1 (step_pending_token s token.1 token.2 ▸ h)
  cases stepCase_of_step s t h with
  | waiting rest => simp [hb] at rest
  | request r rs rest => simp [hb] at rest
  | token pending tok => exact absurd ⟨pending, tok⟩ token
  | frame idx arg size _ minor command => exact .frame idx arg size minor command
  | poll idx arg size _ minor command => exact busyCase_stepT2 minor command
  | search _ minor => exact busyCase_stepT3 minor
  | additional idx arg n _ minor command => exact busyCase_stepT4 minor command
  | closing _ minor ends => exact .closing minor (closingCase_of_afterTransaction ends)
  | k7 _ phase => exact busyCase_stepK7 phase
  | k16 _ phase => exact busyCase_stepK16 phase
  | i1 _ phase => exact .i1 phase
  | i2 _ phase => exact .i2 phase
  | i10 _ phase => exact .i10 phase
  | b2 _ phase => exact .waitBegins phase
  | b3 _ phase =>
    refine busyCase_stepB3 phase (fun stage tok => token ⟨?_, tok⟩)
    rw [tokenPending_iff, phase]
    exact ⟨hb, rfl, stage⟩
  | b4 _ phase => exact busyCase_stepB4 phase
  | b5 _ phase => exact busyCase_stepB5 phase
  | b6 _ phase => exact busyCase_stepB6 phase
  | b7 _ phase => exact busyCase_stepB7 phase

/-- What a request `i` does to a block at rest (R24, R93, R94, R137, R147, R202, R242); the operand
registers then hold `o`. -/
inductive RequestCase (s : State) (i : Instr) : State → Prop
  | answered (o : Request) (count : Nat) (acc7 : Byte) (acc16 crcOut : Half) (k : Kind) (st : Byte)
      (even : acc7 = s.acc7 ∨ ∃ x, acc7 = acc7Init x) :
      RequestCase s i { s with
        ops := o, freeCount := count, acc7 := acc7, acc16 := acc16, crcOut := crcOut, kind := k,
        status := st, busy := false, phase := Phase.rest,
        history := .response k st :: .request i :: s.history }
  | init (o : Request) (count : Nat) (instr : i = .init) (op : o.op = 1) :
      RequestCase s i { s with
        busy := true, ops := o, freeCount := count, blocks := 0, ccs := false, phase := ⟨.i1, .none⟩,
        history := .request i :: s.history }
  | read (o : Request) (count : Nat) (op : o.op = 2) (range : outOfRange o.start o.count s.blocks = false) :
      RequestCase s i { s with
        busy := true, ops := o, freeCount := count, phase := ⟨.b1, .t1⟩,
        history := .request i :: s.history }
  | cmd (o : Request) (count : Nat) (op : o.op = 3) :
      RequestCase s i { s with
        busy := true, ops := o, freeCount := count, phase := ⟨.x1, .t1⟩,
        history := .request i :: s.history }
  | cmdr (o : Request) (count : Nat) (op : o.op = 4) (legal : o.size ≤ 19) :
      RequestCase s i { s with
        busy := true, ops := o, freeCount := count, tokenMissing := false, phase := ⟨.x2, .t1⟩,
        history := .request i :: s.history }
  | crc7 (o : Request) (count : Nat) (x : BitVec 7) (op : o.op = 5) (bytes : o.len ≠ 0) :
      RequestCase s i { s with
        busy := true, ops := o, freeCount := count, acc7 := acc7Init x, k := 0, phase := ⟨.k7, .none⟩,
        history := .request i :: s.history }
  | crc16 (o : Request) (count : Nat) (acc16 : Half) (op : o.op = 6) (bytes : o.len ≠ 0) :
      RequestCase s i { s with
        busy := true, ops := o, freeCount := count, acc16 := acc16, k := 0, phase := ⟨.k16, .none⟩,
        history := .request i :: s.history }

/-- An answer at once that leaves the accumulators and `crc_out` (R93, R94, R242). -/
theorem RequestCase.refused (s : State) (i : Instr) (o : Request) (count : Nat) (k : Kind) (st : Byte) :
    RequestCase s i { s with
      ops := o, freeCount := count, kind := k, status := st, busy := false, phase := Phase.rest,
      history := .response k st :: .request i :: s.history } :=
  .answered o count s.acc7 s.acc16 s.crcOut k st (.inl rfl)

/-- The acceptance step of a request is `run` on the state with the operands loaded (R24). -/
theorem requestCase_accept {s t : State} {i : Instr} {load : Request → Request} {run : State → State}
    (hb : s.busy = false) (h : accept i load run s = .next t)
    (goes : RequestCase s i (run { s with
      busy := true, ops := load (Config.unspecifiedOperands s.freeCount), freeCount := s.freeCount + 1,
      history := .request i :: s.history })) : RequestCase s i t := by
  rw [accept_rest _ _ _ _ hb] at h
  cases h
  exact goes

theorem requestCase_reserved {s t : State} {i : Instr} (h : answerReserved i s = .next t) :
    RequestCase s i t := by
  unfold answerReserved at h
  split_ifs at h
  cases h
  exact .refused s i s.ops s.freeCount _ _

/-- Every request a block at rest takes is a case of `RequestCase`. -/
theorem requestCase_of_exec {s t : State} {r : Request} (hb : s.busy = false)
    (h : exec r.toInstr s = .next t) : RequestCase s r.toInstr t := by
  unfold Request.toInstr at h ⊢
  split_ifs at h ⊢
  · simp only [exec, execInit] at h
    exact requestCase_accept hb h (.init _ _ rfl rfl)
  · simp only [exec, execRead] at h
    refine requestCase_accept hb h ?_
    split_ifs with range
    · exact .refused s _ _ _ _ _
    · exact .read _ _ rfl (Bool.eq_false_iff.mpr range)
  · simp only [exec, execCmd] at h
    exact requestCase_accept hb h (.cmd _ _ rfl)
  · simp only [exec, execCmdr] at h
    refine requestCase_accept hb h ?_
    split_ifs with large
    · exact .refused s _ _ _ _ _
    · exact .cmdr _ _ rfl (BitVec.not_lt.mp large)
  · simp only [exec, execCrc7] at h
    refine requestCase_accept hb h ?_
    split_ifs with empty
    · exact .answered _ _ _ s.acc16 _ _ _ (.inr ⟨_, rfl⟩)
    · exact .crc7 _ _ _ rfl empty
  · simp only [exec, execCrc16] at h
    refine requestCase_accept hb h ?_
    split_ifs with empty
    · exact .answered _ _ s.acc7 _ _ _ _ (.inl rfl)
    · exact .crc16 _ _ _ rfl empty
  · exact requestCase_reserved h
  · exact requestCase_reserved h

/-- A block at rest waits, or takes the oldest request off the queue. -/
theorem restCase_of_step {s t : State} (hb : s.busy = false) (h : step s = .next t) :
    t = s ∨ ∃ r rs, s.requests = r :: rs ∧ RequestCase { s with requests := rs } r.toInstr t := by
  cases hq : s.requests with
  | nil =>
    rw [step_rest_idle s hb hq] at h
    cases h
    exact .inl rfl
  | cons r rs =>
    rw [step_rest_request s r rs hb hq] at h
    exact .inr ⟨r, rs, rfl, requestCase_of_exec hb h⟩

end Sys2Proof.Machine

namespace Sys2Proof.Machine

/-! ### The control invariant -/

/-- The clauses of the control invariant about counters, operands and flags, which depend on the label in
`phase`. -/
structure State.CountersFit (t : State) : Prop where
  polls : t.phase.minor = .t2 ∨ t.phase.minor = .t3 → t.attempt < 8
  additional : t.phase.major = .x2 → t.phase.minor = .t3 ∨ t.phase.minor = .t4 → 1 < t.ops.size
  search : t.phase.major = .x2 → t.phase.minor = .t3 → tokenWrapped t.ops.idx = true
  flagClear : t.phase.major.withResult = true → t.phase.minor ≠ .t9 → t.tokenMissing = false
  sourceIndex : t.phase.major = .k7 ∨ t.phase.major = .k16 → t.k < t.ops.len
  blockIndex : t.phase.major.inBlock = true → t.blkI < t.ops.count
  multiBlock : t.phase.major = .b8 → 1 < t.ops.count
  notToken : t.phase.major = .b4 → t.tok ≠ dataStartByte
  loopBound : t.phase.major = .i6a ∨ t.phase.major = .i6b →
    ∀ n, Config.acmd41MaxIter = some n → t.iter < n

/-- The clauses about the bus and the read in progress. -/
structure State.BusFits (t : State) : Prop where
  chipSelect : t.cs = if t.phase.inTransaction then .asserted else .deasserted
  dataOut : t.mosiHold = if t.rxStage = .hold then .released else .held1
  reading : t.rxStage ≠ .hold → t.phase.reads = true

theorem ControlInv.ofRest {t : State} (busy : t.busy = false) (phase : t.phase = Phase.rest)
    (cs : t.cs = .deasserted) (mosi : t.mosiHold = .released) (stage : t.rxStage = .hold) :
    ControlInv t where
  rest _ := ⟨phase, cs, mosi, stage⟩
  running h := by simp [busy] at h
  operation h := by simp [busy] at h
  chipSelect h := by simp [busy] at h
  dataOut := by simp [mosi, stage]
  reading h := absurd stage h
  polls h := by simp [phase, Phase.rest] at h
  cmdrSize h := by simp [phase, Phase.rest] at h
  additional h := by simp [phase, Phase.rest] at h
  search h := by simp [phase, Phase.rest] at h
  flagClear h := by simp [phase, Phase.rest, Major.withResult] at h
  sourceIndex h := by simp [phase, Phase.rest] at h
  range h := by simp [phase, Phase.rest, Major.op] at h
  blockIndex h := by simp [phase, Phase.rest, Major.inBlock] at h
  multiBlock h := by simp [phase, Phase.rest] at h
  notToken h := by simp [phase, Phase.rest] at h
  loopBound h := by simp [phase, Phase.rest] at h

theorem ControlInv.ofBusy {t : State} (busy : t.busy = true)
    (running : t.phase.major ≠ .idle ∧ t.phase.minor ∈ t.phase.major.minors)
    (operation : t.ops.op = t.phase.major.op) (size : t.phase.major = .x2 → t.ops.size ≤ 19)
    (range : t.phase.major.op = 2 → outOfRange t.ops.start t.ops.count t.blocks = false)
    (bus : t.BusFits) (counters : t.CountersFit) : ControlInv t where
  rest h := by simp [busy] at h
  running _ := running
  operation _ := operation
  chipSelect _ := bus.chipSelect
  dataOut := bus.dataOut
  reading := bus.reading
  polls := counters.polls
  cmdrSize := size
  additional := counters.additional
  search := counters.search
  flagClear := counters.flagClear
  sourceIndex := counters.sourceIndex
  range := range
  blockIndex := counters.blockIndex
  multiBlock := counters.multiBlock
  notToken := counters.notToken
  loopBound := counters.loopBound

/-- The block at rest takes a request and goes to a label outside transactions, or to the frame of its first
command. -/
theorem ControlInv.starts {t : State} {M : Major} {m : Minor} (phase : t.phase = ⟨M, m⟩)
    (legal : M ≠ .idle ∧ m ∈ M.minors ∧ Phase.inTransaction ⟨M, m⟩ = false)
    (busy : t.busy = true) (op : t.ops.op = M.op) (size : M = .x2 → t.ops.size ≤ 19)
    (range : M.op = 2 → outOfRange t.ops.start t.ops.count t.blocks = false)
    (bus : t.busReleased) (counters : t.CountersFit) : ControlInv t := by
  obtain ⟨idle, minor, closed⟩ := legal
  obtain ⟨cs, mosi, stage⟩ := bus
  refine .ofBusy busy ?_ ?_ ?_ ?_ ⟨?_, by simp [mosi, stage], fun h => absurd stage h⟩ counters <;>
    rw [phase]
  · exact ⟨idle, minor⟩
  · exact op
  · exact size
  · exact range
  · rw [cs, closed]
    rfl

theorem Major.eq_x2_of_op {m : Major} (h : m.op = 4) : m = .x2 := by
  cases m <;> simp [Major.op] at h ⊢

/-- A busy block goes on within its operation, to the label `(M, m)`. -/
theorem ControlInv.goesOn {s t : State} (inv : ControlInv s) (hb : s.busy = true) {M : Major} {m : Minor}
    (phase : t.phase = ⟨M, m⟩) (legal : M ≠ .idle ∧ m ∈ M.minors) (op : M.op = s.phase.major.op)
    (same : t.busy = s.busy ∧ t.ops = s.ops) (blocks : M.op = 2 → t.blocks = s.blocks)
    (bus : t.BusFits) (counters : t.CountersFit) : ControlInv t := by
  obtain ⟨busy, ops⟩ := same
  refine .ofBusy (busy.trans hb) ?_ ?_ ?_ ?_ bus counters <;> rw [phase]
  · exact legal
  · rw [ops, op, inv.operation hb]
  · rintro rfl
    rw [ops]
    exact inv.cmdrSize (Major.eq_x2_of_op op.symm)
  · intro read
    rw [ops, blocks read]
    exact inv.range (op ▸ read)

/-- Away from the labels that read, no read is half done. -/
theorem ControlInv.still {s : State} (inv : ControlInv s) (h : s.phase.reads = false) :
    s.rxStage = .hold ∧ s.mosiHold = .released := by
  have stage : s.rxStage = .hold := by
    by_contra half
    simp [inv.reading half] at h
  exact ⟨stage, by simp [inv.dataOut, stage]⟩

/-- Arriving with no read half done. -/
theorem State.BusFits.ofStill {t : State} {M : Major} {m : Minor} (phase : t.phase = ⟨M, m⟩)
    (still : t.rxStage = .hold ∧ t.mosiHold = .released)
    (cs : t.cs = if Phase.inTransaction ⟨M, m⟩ then .asserted else .deasserted) : t.BusFits :=
  ⟨phase ▸ cs, by simp [still], fun h => absurd still.1 h⟩

/-! Which clauses a label has, by the operation it belongs to. -/

theorem State.CountersFit.ofInit {t : State} {M : Major} {m : Minor} (phase : t.phase = ⟨M, m⟩)
    (op : M.op = 1) (outside : m = .none ∨ m = .t1)
    (flagClear : M.withResult = true → t.tokenMissing = false)
    (loopBound : M = .i6a ∨ M = .i6b → ∀ n, Config.acmd41MaxIter = some n → t.iter < n) :
    t.CountersFit := by
  constructor <;> rw [phase]
  case polls => rcases outside with rfl | rfl <;> simp
  case flagClear => exact fun h _ => flagClear h
  case loopBound => exact loopBound
  all_goals cases M <;> simp_all [Major.op, Major.inBlock]

theorem State.CountersFit.ofRead {t : State} {M : Major} {m : Minor} (phase : t.phase = ⟨M, m⟩)
    (op : M.op = 2) (between : m ≠ .t2 ∧ m ≠ .t3)
    (blockIndex : M.inBlock = true → t.blkI < t.ops.count) (multiBlock : M = .b8 → 1 < t.ops.count)
    (notToken : M = .b4 → t.tok ≠ dataStartByte) : t.CountersFit := by
  constructor <;> rw [phase]
  case polls => simp [between]
  case blockIndex => exact blockIndex
  case multiBlock => exact multiBlock
  case notToken => exact notToken
  all_goals cases M <;> simp_all [Major.op, Major.withResult]

theorem State.CountersFit.ofSource {t : State} {M : Major} (phase : t.phase = ⟨M, .none⟩)
    (major : M = .k7 ∨ M = .k16) (sourceIndex : t.k < t.ops.len) : t.CountersFit := by
  constructor <;> rw [phase]
  case sourceIndex => exact fun _ => sourceIndex
  all_goals rcases major with rfl | rfl <;> simp [Major.withResult, Major.inBlock]

/-- The labels inside a transaction belong to the steps that send a command, and to `B9`. -/
theorem major_of_minor_mem {M : Major} {m : Minor} (legal : m ∈ M.minors) (inside : m ≠ .none) :
    M ≠ .idle ∧ M ≠ .k7 ∧ M ≠ .k16 ∧ M.inBlock = false ∧ M ≠ .b4 := by
  cases M <;> simp_all [Major.minors, Major.inBlock]

theorem mem_minors_of_search {M : Major} (h : Minor.t3 ∈ M.minors) :
    Minor.t4 ∈ M.minors ∧ Minor.t9 ∈ M.minors := by
  cases M <;> simp_all [Major.minors]

/-- The labels of a step that sends a command; READ's commands leave the transaction open (R162). -/
theorem mem_minors_of_command {s : State} {idx : BitVec 6} {arg : Word} {size : Option Nat}
    (h : s.command = some (idx, arg, size)) : Minor.t2 ∈ s.phase.major.minors ∧
      (s.phase.major ≠ .b1 → s.phase.major ≠ .b8 → Minor.t9 ∈ s.phase.major.minors) := by
  unfold State.command at h
  split at h <;> cases h <;> simp_all [Major.minors]

/-- The labels of a step that runs `SendCommandWithResult` (R164). -/
theorem mem_minors_of_call {s : State} {idx : BitVec 6} {arg : Word} {n : Nat}
    (h : s.command = some (idx, arg, some n)) : s.phase.major.withResult = true ∧
      Minor.t9 ∈ s.phase.major.minors ∧ Minor.t4 ∈ s.phase.major.minors ∧
      (tokenWrapped idx = true → Minor.t3 ∈ s.phase.major.minors) ∧
      (s.phase.major = .x2 → idx = s.ops.idx ∧ n = s.ops.size.toNat) := by
  unfold State.command at h
  split at h <;> cases h <;> simp_all [Major.minors, Major.withResult, tokenWrapped]

/-- A step that sends a command goes on inside its transaction, to a label `m`. -/
theorem ControlInv.within {s t : State} (inv : ControlInv s) (hb : s.busy = true) (m : Minor)
    (phase : t.phase = ⟨s.phase.major, m⟩) (legal : m ∈ s.phase.major.minors)
    (inside : m = .t2 ∨ m = .t3 ∨ m = .t4 ∨ m = .t9)
    (same : t.busy = s.busy ∧ t.ops = s.ops ∧ t.blocks = s.blocks ∧ t.iter = s.iter)
    (still : t.rxStage = .hold ∧ t.mosiHold = .released) (cs : t.cs = .asserted)
    (polls : m = .t2 ∨ m = .t3 → t.attempt < 8)
    (additional : s.phase.major = .x2 → m = .t3 ∨ m = .t4 → 1 < s.ops.size)
    (search : s.phase.major = .x2 → m = .t3 → tokenWrapped s.ops.idx = true)
    (flagClear : s.phase.major.withResult = true → m ≠ .t9 → t.tokenMissing = false) :
    ControlInv t := by
  obtain ⟨busy, ops, blocks, iter⟩ := same
  obtain ⟨idle, k7, k16, inBlock, b4⟩ := major_of_minor_mem legal (by
    rcases inside with h | h | h | h <;> simp [h])
  refine inv.goesOn hb phase ⟨idle, legal⟩ rfl ⟨busy, ops⟩ (fun _ => blocks) (.ofStill phase still ?_) ?_
  · rw [cs, if_pos (by rcases inside with rfl | rfl | rfl | rfl <;> rfl)]
  · constructor <;> rw [phase] <;> dsimp only
    · exact polls
    · rw [ops]; exact additional
    · rw [ops]; exact search
    · exact flagClear
    · simp [k7, k16]
    · simp [inBlock]
    · rw [ops]; exact inv.multiBlock
    · exact fun h => absurd h b4
    · rw [iter]; exact inv.loopBound

theorem inTransaction_of_reads {p : Phase} (h : p.reads = true) : p.inTransaction = true := by
  simp only [Phase.reads, Phase.inTransaction, Bool.or_eq_true] at h ⊢
  tauto

/-- A read goes on at its label: only its stage, the bus and the receiving registers change. -/
theorem ControlInv.reads {s t : State} (inv : ControlInv s) (hb : s.busy = true)
    (reads : s.phase.reads = true)
    (same : t.busy = s.busy ∧ t.ops = s.ops ∧ t.blocks = s.blocks ∧ t.iter = s.iter ∧
      t.phase = s.phase ∧ t.tokenMissing = s.tokenMissing ∧ t.k = s.k ∧ t.blkI = s.blkI)
    (polls : s.phase.minor = .t2 ∨ s.phase.minor = .t3 → t.attempt < 8)
    (cs : t.cs = .asserted) (dataOut : t.mosiHold = if t.rxStage = .hold then .released else .held1) :
    ControlInv t := by
  obtain ⟨busy, ops, blocks, iter, phase, flag, k, blkI⟩ := same
  obtain ⟨idle, minor⟩ := inv.running hb
  have b4 : s.phase.major ≠ .b4 := by
    intro b4
    simp [Phase.reads, b4, Major.minors] at reads minor
    simp [minor] at reads
  refine inv.goesOn hb phase ⟨idle, minor⟩ rfl ⟨busy, ops⟩ (fun _ => blocks)
    ⟨?_, dataOut, fun _ => phase ▸ reads⟩ ?_
  · rw [cs, phase, if_pos (inTransaction_of_reads reads)]
  · constructor <;> simp only [phase, ops, flag, k, blkI, iter]
    · exact polls
    · exact inv.additional
    · exact inv.search
    · exact inv.flagClear
    · exact inv.sourceIndex
    · exact inv.blockIndex
    · exact inv.multiBlock
    · exact fun h => absurd h b4
    · exact inv.loopBound

theorem attempt_succ_lt {a : BitVec 4} (h : a < 8) (more : a + 1 ≠ 8) : a + 1 < 8 := by
  revert a; decide

theorem succ_lt_of_lt {k n : Half} (h : k < n) (more : k + 1 ≠ n) : k + 1 < n := by
  bv_omega

theorem pos_of_ne_zero {n : Half} (h : n ≠ 0) : 0 < n := by
  bv_omega

/-- What a request starts is legal. -/
theorem controlInv_of_request {s t : State} {i : Instr} (bus : s.busReleased) (h : RequestCase s i t) :
    ControlInv t := by
  cases h with
  | answered =>
    obtain ⟨cs, mosi, stage⟩ := bus
    exact .ofRest rfl rfl cs mosi stage
  | init o count instr op =>
    exact ControlInv.starts rfl (by decide) rfl op nofun nofun bus
      (.ofInit rfl rfl (.inl rfl) nofun nofun)
  | read o count op range =>
    exact ControlInv.starts rfl (by decide) rfl op nofun (fun _ => range) bus
      (.ofRead rfl rfl (by decide) nofun nofun nofun)
  | cmd o count op =>
    refine ControlInv.starts rfl (by decide) rfl op nofun nofun bus ?_
    constructor <;> simp [Major.withResult, Major.inBlock]
  | cmdr o count op legal =>
    refine ControlInv.starts rfl (by decide) rfl op (fun _ => legal) nofun bus ?_
    constructor <;> simp [Major.inBlock]
  | crc7 o count x op bytes =>
    exact ControlInv.starts rfl (by decide) rfl op nofun nofun bus
      (.ofSource rfl (.inl rfl) (pos_of_ne_zero bytes))
  | crc16 o count acc16 op bytes =>
    exact ControlInv.starts rfl (by decide) rfl op nofun nofun bus
      (.ofSource rfl (.inr rfl) (pos_of_ne_zero bytes))

/-- The steps between which INIT goes on by a `SendCommandWithResult`. -/
theorem Major.nextCall_cases {a b : Major} (h : a.nextCall = some b) :
    a = .i3 ∧ b = .i4 ∨ a = .i4 ∧ b = .i5 ∨ a = .i6b ∧ b = .i7 ∨ a = .i7 ∧ b = .i8 ∨ a = .i8 ∧ b = .i9 := by
  cases a <;> simp_all [Major.nextCall]

/-- A pass of the loop begins only while its number is below the bound (R213). -/
theorem lt_of_not_iterExhausted {iter n : Nat} (le : iter ≤ n) (room : iterExhausted iter = false)
    (bound : Config.acmd41MaxIter = some n) : iter < n := by
  refine lt_of_le_of_ne le (fun eq => ?_)
  simp [iterExhausted, bound, eq] at room

/-- Nothing is read at the first and the last label of a transaction. -/
theorem ControlInv.still_of_minor {s : State} (inv : ControlInv s) (hb : s.busy = true)
    (minor : s.phase.minor = .t1 ∨ s.phase.minor = .t9) : s.rxStage = .hold ∧ s.mosiHold = .released := by
  obtain ⟨-, legal⟩ := inv.running hb
  obtain ⟨-, -, -, inBlock, -⟩ := major_of_minor_mem legal (by rcases minor with h | h <;> simp [h])
  refine inv.still ?_
  cases major : s.phase.major <;> rcases minor with h | h <;>
    simp_all [Phase.reads, Major.inBlock]

/-- Where a transaction ends, the operation answers or goes on legally. -/
theorem controlInv_of_closing {s t : State} (inv : ControlInv s) (hb : s.busy = true)
    (minor : s.phase.minor = .t9) (h : ClosingCase s t) : ControlInv t := by
  have still := inv.still_of_minor hb (.inr minor)
  cases h with
  | answers => exact .ofRest rfl rfl rfl still.2 still.1
  | calls major v2 iter ocr ccsNew edge =>
    rcases Major.nextCall_cases edge with ⟨a, rfl⟩ | ⟨a, rfl⟩ | ⟨a, rfl⟩ | ⟨a, rfl⟩ | ⟨a, rfl⟩ <;>
      exact inv.goesOn hb rfl (by decide) (by rw [a]; rfl) ⟨rfl, rfl⟩ nofun (.ofStill rfl still rfl)
        (.ofInit rfl rfl (.inr rfl) (fun _ => rfl) nofun)
  | pass iter ocr edge room =>
    have op : Major.op .i6a = s.phase.major.op := by
      rcases edge with ⟨a, -⟩ | ⟨a, -⟩ <;> rw [a] <;> rfl
    refine inv.goesOn hb rfl (by decide) op ⟨rfl, rfl⟩ nofun (.ofStill rfl still rfl)
      (.ofInit rfl rfl (.inr rfl) nofun fun _ n bound => lt_of_not_iterExhausted ?_ room bound)
    rcases edge with ⟨-, rfl⟩ | ⟨a, rfl⟩
    · exact Nat.zero_le n
    · exact inv.loopBound (.inr a) n bound
  | acmd41 edge =>
    exact inv.goesOn hb rfl (by decide) (by rw [edge]; rfl) ⟨rfl, rfl⟩ nofun (.ofStill rfl still rfl)
      (.ofInit rfl rfl (.inr rfl) nofun fun _ => inv.loopBound (.inl edge))
  | v1Ready edge =>
    exact inv.goesOn hb rfl (by decide) (by rw [edge]; rfl) ⟨rfl, rfl⟩ nofun (.ofStill rfl still rfl)
      (.ofInit rfl rfl (.inl rfl) nofun nofun)
  | commits edge =>
    exact inv.goesOn hb rfl (by decide) (by rw [edge]; rfl) ⟨rfl, rfl⟩ nofun (.ofStill rfl still rfl)
      (.ofInit rfl rfl (.inl rfl) nofun nofun)

theorem ControlInv.cs_asserted {s : State} (inv : ControlInv s) (hb : s.busy = true)
    (inside : s.phase.inTransaction = true) : s.cs = .asserted := by
  rw [inv.chipSelect hb, if_pos inside]

/-- The block index goes up while it is below the last (R247). -/
theorem succ_lt_count {i n : Word} (more : i.toNat + 1 < n.toNat) : i + 1 < n := by
  bv_omega

/-- A READ that runs has a block to read (R242). -/
theorem count_pos_of_inRange {start count blocks : Word} (h : outOfRange start count blocks = false) :
    0 < count := by
  have := mt (outOfRange_iff start count blocks).mpr (by simp [h])
  bv_omega

/-- READ goes on inside its transaction (R246 to R256). -/
theorem ControlInv.readGoesOn {s t : State} (inv : ControlInv s) (hb : s.busy = true)
    (source : s.phase.major.op = 2 ∧ s.phase.inTransaction = true) {M : Major} {m : Minor}
    (phase : t.phase = ⟨M, m⟩)
    (legal : M ≠ .idle ∧ m ∈ M.minors ∧ M.op = 2 ∧ (m ≠ .t2 ∧ m ≠ .t3) ∧ Phase.inTransaction ⟨M, m⟩ = true)
    (same : t.busy = s.busy ∧ t.ops = s.ops ∧ t.blocks = s.blocks ∧ t.cs = s.cs)
    (still : t.rxStage = .hold ∧ t.mosiHold = .released)
    (blockIndex : M.inBlock = true → t.blkI < s.ops.count) (multiBlock : M = .b8 → 1 < s.ops.count)
    (notToken : M = .b4 → t.tok ≠ dataStartByte) : ControlInv t := by
  obtain ⟨op, inside⟩ := source
  obtain ⟨idle, minor, op', between, inside'⟩ := legal
  obtain ⟨busy, ops, blocks, cs⟩ := same
  refine inv.goesOn hb phase ⟨idle, minor⟩ (op'.trans op.symm) ⟨busy, ops⟩ (fun _ => blocks)
    (.ofStill phase still ?_) (.ofRead phase op' between ?_ ?_ notToken)
  · rw [cs, inv.cs_asserted hb inside, if_pos inside']
  · exact ops ▸ blockIndex
  · exact ops ▸ multiBlock

/-- A CRC operation goes on with the next source byte (R137, R147). -/
theorem ControlInv.sourceGoesOn {s t : State} (inv : ControlInv s) (hb : s.busy = true) {M : Major}
    (major : M = .k7 ∨ M = .k16) (phase : s.phase = ⟨M, .none⟩) (more : s.k + 1 ≠ s.ops.len)
    (same : t.busy = s.busy ∧ t.ops = s.ops ∧ t.phase = s.phase ∧ t.k = s.k + 1)
    (bus : t.cs = s.cs ∧ t.mosiHold = s.mosiHold ∧ t.rxStage = s.rxStage) : ControlInv t := by
  obtain ⟨busy, ops, phase', k⟩ := same
  obtain ⟨cs, mosi, stage⟩ := bus
  have still := inv.still (by rw [phase]; rcases major with rfl | rfl <;> rfl)
  rw [← mosi, ← stage] at still
  have index : s.k < s.ops.len := inv.sourceIndex (by rw [phase]; exact major)
  rw [phase] at phase'
  refine inv.goesOn hb phase' ?_ (by rw [phase]) ⟨busy, ops⟩ ?_ (.ofStill phase' still ?_)
    (.ofSource phase' major ?_)
  · rcases major with rfl | rfl <;> decide
  · rcases major with rfl | rfl <;> nofun
  · rw [cs, inv.chipSelect hb, phase]
  · rw [k, ops]
    exact succ_lt_of_lt index more

/-- Every step of a busy block keeps the control invariant. -/
theorem controlInv_of_busy {s t : State} (inv : ControlInv s) (hb : s.busy = true)
    (h : BusyCase s t) : ControlInv t := by
  have asserted (reads : s.phase.reads = true) : s.cs = .asserted :=
    inv.cs_asserted hb (inTransaction_of_reads reads)
  have released (outside : s.phase.inTransaction = false) : s.cs = .deasserted := by
    rw [inv.chipSelect hb, outside]
    rfl
  cases h with
  | frame idx arg size minor command =>
    have still := inv.still_of_minor hb (.inl minor)
    exact inv.within hb .t2 rfl (mem_minors_of_command command).1 (.inl rfl) ⟨rfl, rfl, rfl, rfl⟩ still rfl
      (fun _ => show (0 : BitVec 4) < 8 by decide) nofun nofun
      (fun call _ => inv.flagClear call (by simp [minor]))
  | hold n size stage =>
    exact inv.reads hb size.reads ⟨rfl, rfl, rfl, rfl, rfl, rfl, rfl, rfl⟩ inv.polls
      (asserted size.reads) rfl
  | read n size stage =>
    refine inv.reads hb size.reads ⟨rfl, rfl, rfl, rfl, rfl, rfl, rfl, rfl⟩ inv.polls rfl ?_
    simp [inv.dataOut, stage]
  | pollAgain minor more =>
    have reads : s.phase.reads = true := by rcases minor with h | h <;> simp [Phase.reads, h]
    exact inv.reads hb reads ⟨rfl, rfl, rfl, rfl, rfl, rfl, rfl, rfl⟩
      (fun h => attempt_succ_lt (inv.polls h) more)
      (asserted reads) rfl
  | b1Failed phase | b8Done phase | endsReading phase =>
    exact inv.readGoesOn hb (by rw [phase]; decide) rfl (by decide) ⟨rfl, rfl, rfl, rfl⟩ ⟨rfl, rfl⟩
      nofun nofun nofun
  | b1Ready phase =>
    exact inv.readGoesOn hb (by rw [phase]; decide) rfl (by decide) ⟨rfl, rfl, rfl, rfl⟩ ⟨rfl, rfl⟩
      (fun _ => count_pos_of_inRange (inv.range (by rw [phase]; rfl))) nofun nofun
  | commandDone idx arg minor command b1 b8 =>
    exact inv.within hb .t9 rfl ((mem_minors_of_command command).2 b1 b8) (by decide) ⟨rfl, rfl, rfl, rfl⟩
      ⟨rfl, rfl⟩ (asserted (by simp [Phase.reads, minor])) nofun nofun nofun (fun _ h => absurd rfl h)
  | callDone idx arg n minor command =>
    obtain ⟨-, closes, -⟩ := mem_minors_of_call command
    exact inv.within hb .t9 rfl closes (by decide) ⟨rfl, rfl, rfl, rfl⟩
      ⟨rfl, rfl⟩ (asserted (by simp [Phase.reads, minor])) nofun nofun nofun (fun _ _ => rfl)
  | callReads idx arg n minor command more =>
    obtain ⟨-, -, additional, -, x2⟩ := mem_minors_of_call command
    refine inv.within hb .t4 rfl additional (by decide) ⟨rfl, rfl, rfl, rfl⟩
      ⟨rfl, rfl⟩ (asserted (by simp [Phase.reads, minor])) nofun (fun major _ => ?_) nofun (fun _ _ => rfl)
    rw [(x2 major).2] at more
    exact more
  | callSearches idx arg n minor command more wrapped =>
    obtain ⟨-, -, -, search, x2⟩ := mem_minors_of_call command
    refine inv.within hb .t3 rfl (search wrapped) (by decide) ⟨rfl, rfl, rfl, rfl⟩
      ⟨rfl, rfl⟩ (asserted (by simp [Phase.reads, minor])) (fun _ => show (0 : BitVec 4) < 8 by decide)
      (fun major _ => ?_) (fun major _ => ?_) (fun _ _ => rfl)
    · rw [(x2 major).2] at more
      exact more
    · rw [← (x2 major).1]
      exact wrapped
  | searchFailed minor =>
    have legal := mem_minors_of_search (minor ▸ (inv.running hb).2)
    exact inv.within hb .t9 rfl legal.2 (by decide) ⟨rfl, rfl, rfl, rfl⟩
      ⟨rfl, rfl⟩ (asserted (by simp [Phase.reads, minor])) nofun nofun nofun (fun _ h => absurd rfl h)
  | searchFound minor =>
    have legal := mem_minors_of_search (minor ▸ (inv.running hb).2)
    exact inv.within hb .t4 rfl legal.1 (by decide) ⟨rfl, rfl, rfl, rfl⟩
      ⟨rfl, rfl⟩ (asserted (by simp [Phase.reads, minor])) nofun
      (fun x2 _ => inv.additional x2 (.inl minor)) nofun
      (fun call _ => inv.flagClear call (by simp [minor]))
  | additionalDone idx arg n minor command =>
    obtain ⟨-, closes, -⟩ := mem_minors_of_call command
    exact inv.within hb .t9 rfl closes (by decide) ⟨rfl, rfl, rfl, rfl⟩
      ⟨rfl, rfl⟩ (asserted (by simp [Phase.reads, minor])) nofun nofun nofun (fun _ h => absurd rfl h)
  | closing minor goes => exact controlInv_of_closing inv hb minor goes
  | source7 phase more =>
    exact inv.sourceGoesOn hb (.inl rfl) phase more ⟨rfl, rfl, rfl, rfl⟩ ⟨rfl, rfl, rfl⟩
  | source7Done phase | source16Done phase | i10 phase =>
    have still := inv.still (by rw [phase]; rfl)
    exact .ofRest rfl rfl (released (by rw [phase]; rfl)) still.2 still.1
  | source16 phase more =>
    exact inv.sourceGoesOn hb (.inr rfl) phase more ⟨rfl, rfl, rfl, rfl⟩ ⟨rfl, rfl, rfl⟩
  | i1 phase =>
    have still := inv.still (by rw [phase]; rfl)
    exact inv.goesOn hb rfl (by decide) (by rw [phase]; rfl) ⟨rfl, rfl⟩ nofun
      (.ofStill rfl still (released (by rw [phase]; rfl))) (.ofInit rfl rfl (.inl rfl) nofun nofun)
  | i2 phase =>
    have still := inv.still (by rw [phase]; rfl)
    exact inv.goesOn hb rfl (by decide) (by rw [phase]; rfl) ⟨rfl, rfl⟩ nofun (.ofStill rfl still rfl)
      (.ofInit rfl rfl (.inr rfl) nofun nofun)
  | waitBegins phase =>
    exact inv.readGoesOn hb (by rw [phase]; decide) rfl (by decide) ⟨rfl, rfl, rfl, rfl⟩
      (inv.still (by rw [phase]; rfl)) (fun _ => inv.blockIndex (by rw [phase]; rfl)) nofun nofun
  | waitToken phase | payloadRead phase =>
    exact inv.readGoesOn hb (by rw [phase]; decide) rfl (by decide) ⟨rfl, rfl, rfl, rfl⟩
      ⟨rfl, rfl⟩ (fun _ => inv.blockIndex (by rw [phase]; rfl)) nofun nofun
  | waitOther phase tok =>
    exact inv.readGoesOn hb (by rw [phase]; decide) rfl (by decide) ⟨rfl, rfl, rfl, rfl⟩
      ⟨rfl, rfl⟩ (fun _ => inv.blockIndex (by rw [phase]; rfl)) nofun (fun _ => tok)
  | waitTick phase major minor goes =>
    have index := inv.blockIndex (by rw [phase]; rfl)
    have still := inv.still (by rw [phase]; rfl)
    rcases goes with ⟨rfl, rfl⟩ | ⟨rfl, rfl⟩ | ⟨rfl, rfl⟩ <;>
      exact inv.readGoesOn hb (by rw [phase]; decide) rfl (by decide) ⟨rfl, rfl, rfl, rfl⟩ still
        (fun _ => index) nofun nofun
  | payloadByte phase major goes =>
    have index := inv.blockIndex (by rw [phase]; rfl)
    have still := inv.still (by rw [phase]; rfl)
    rcases goes with rfl | rfl <;>
      exact inv.readGoesOn hb (by rw [phase]; decide) rfl (by decide) ⟨rfl, rfl, rfl, rfl⟩ still
        (fun _ => index) nofun nofun
  | nextBlock phase more =>
    exact inv.readGoesOn hb (by rw [phase]; decide) rfl (by decide) ⟨rfl, rfl, rfl, rfl⟩
      ⟨rfl, rfl⟩ (fun _ => succ_lt_count more) nofun nofun
  | stopsReading phase many =>
    exact inv.readGoesOn hb (by rw [phase]; decide) rfl (by decide) ⟨rfl, rfl, rfl, rfl⟩
      ⟨rfl, rfl⟩ nofun (fun _ => many) nofun

/-- Settles O51: the block at rest waits or takes a request; a busy one makes a step of its operation. -/
theorem stepKeepsControl : Obligations.StepKeepsControl := by
  intro s t inv h
  cases hb : s.busy with
  | true => exact controlInv_of_busy inv hb (busyCase_of_step hb h)
  | false =>
    obtain ⟨-, bus⟩ := inv.rest hb
    rcases restCase_of_step hb h with rfl | ⟨r, rs, -, request⟩
    · exact inv
    · exact controlInv_of_request (s := { s with requests := rs }) bus request

end Sys2Proof.Machine

namespace Sys2Proof.Machine

/-! ### The session invariant -/

/-- The table step of R134 shifts a zero into bit 0, and its constant has bit 0 clear. -/
theorem t7Step_getLsbD_zero (a : Byte) : (t7Step a).getLsbD 0 = false := by
  unfold t7Step
  split_ifs <;> simp

theorem acc7Step_getLsbD_zero (a b : Byte) : (acc7Step a b).getLsbD 0 = false :=
  t7Step_getLsbD_zero _

theorem acc7Init_getLsbD_zero (r : BitVec 7) : (acc7Init r).getLsbD 0 = false := by
  simp [acc7Init]

/-- The block count of a CSD is a multiple of 1024, also where the product wraps (R21, R225). -/
theorem blockCount_mod (c : BitVec 22) : (blockCount c).toNat % 1024 = 0 := by
  rw [blockCount, BitVec.toNat_mul, show (1024 : Word).toNat = 1024 from rfl]
  omega

/-- A step that writes neither `blocks` nor `ccs` keeps the session invariant, unless it goes to a step of
INIT from elsewhere. -/
theorem SessionInv.keeps {s t : State} (inv : SessionInv s) (same : t.blocks = s.blocks ∧ t.ccs = s.ccs)
    (even : t.acc7.getLsbD 0 = false)
    (beforeCommit : t.busy = true → t.phase.major.beforeCommit = true →
      s.busy = true ∧ s.phase.major.beforeCommit = true)
    (slow : t.busy = true → t.phase.major.slowClock = true →
      s.busy = true ∧ s.phase.major.slowClock = true ∧ t.clkHz = s.clkHz) : SessionInv t := by
  obtain ⟨blocks, ccs⟩ := same
  refine ⟨by rw [blocks]; exact inv.unit, fun busy stage => ?_, fun busy stage => ?_, even⟩
  · obtain ⟨busy', stage'⟩ := beforeCommit busy stage
    rw [blocks, ccs]
    exact inv.uncommitted busy' stage'
  · obtain ⟨busy', stage', clock⟩ := slow busy stage
    rw [clock]
    exact inv.clock busy' stage'

/-- A step to a label of the same major. -/
theorem SessionInv.sameMajor {s t : State} (inv : SessionInv s) (hb : s.busy = true)
    (major : t.phase.major = s.phase.major)
    (same : t.blocks = s.blocks ∧ t.ccs = s.ccs ∧ t.clkHz = s.clkHz ∧ t.acc7 = s.acc7) : SessionInv t := by
  obtain ⟨blocks, ccs, clock, acc7⟩ := same
  refine inv.keeps ⟨blocks, ccs⟩ (by rw [acc7]; exact inv.evenAcc7) ?_ ?_ <;> rw [major]
  · exact fun _ stage => ⟨hb, stage⟩
  · exact fun _ stage => ⟨hb, stage, clock⟩

/-- A step that is outside INIT afterwards, or at rest. -/
theorem SessionInv.outside {s t : State} (inv : SessionInv s) (same : t.blocks = s.blocks ∧ t.ccs = s.ccs)
    (outside : t.busy = false ∨ t.phase.major.beforeCommit = false ∧ t.phase.major.slowClock = false)
    (even : t.acc7.getLsbD 0 = false) : SessionInv t := by
  refine inv.keeps same even (fun busy stage => ?_) (fun busy stage => ?_) <;> simp_all

theorem sessionInv_of_request {s t : State} {i : Instr} (inv : SessionInv s) (h : RequestCase s i t) :
    SessionInv t := by
  cases h with
  | answered o count acc7 acc16 crcOut k st even =>
    refine inv.outside ⟨rfl, rfl⟩ (.inl rfl) ?_
    rcases even with rfl | ⟨x, rfl⟩
    · exact inv.evenAcc7
    · exact acc7Init_getLsbD_zero x
  | init => exact ⟨rfl, fun _ _ => ⟨rfl, rfl⟩, nofun, inv.evenAcc7⟩
  | read => exact inv.outside ⟨rfl, rfl⟩ (.inr ⟨rfl, rfl⟩) inv.evenAcc7
  | cmd => exact inv.outside ⟨rfl, rfl⟩ (.inr ⟨rfl, rfl⟩) inv.evenAcc7
  | cmdr => exact inv.outside ⟨rfl, rfl⟩ (.inr ⟨rfl, rfl⟩) inv.evenAcc7
  | crc7 o count x => exact inv.outside ⟨rfl, rfl⟩ (.inr ⟨rfl, rfl⟩) (acc7Init_getLsbD_zero x)
  | crc16 => exact inv.outside ⟨rfl, rfl⟩ (.inr ⟨rfl, rfl⟩) inv.evenAcc7

/-- INIT goes on from a step before the commit, and so at the identification clock (R226, R313). -/
theorem SessionInv.initGoesOn {s t : State} (inv : SessionInv s) (hb : s.busy = true)
    (before : s.phase.major.beforeCommit = true ∧ s.phase.major.slowClock = true)
    (same : t.blocks = s.blocks ∧ t.ccs = s.ccs ∧ t.clkHz = s.clkHz ∧ t.acc7 = s.acc7) : SessionInv t := by
  obtain ⟨blocks, ccs, clock, acc7⟩ := same
  exact inv.keeps ⟨blocks, ccs⟩ (by rw [acc7]; exact inv.evenAcc7) (fun _ _ => ⟨hb, before.1⟩)
    (fun _ _ => ⟨hb, before.2, clock⟩)

theorem sessionInv_of_closing {s t : State} (inv : SessionInv s) (hb : s.busy = true)
    (h : ClosingCase s t) : SessionInv t := by
  cases h with
  | answers => exact inv.outside ⟨rfl, rfl⟩ (.inl rfl) inv.evenAcc7
  | calls major v2 iter ocr ccsNew edge =>
    refine inv.initGoesOn hb ?_ ⟨rfl, rfl, rfl, rfl⟩
    rcases Major.nextCall_cases edge with ⟨a, -⟩ | ⟨a, -⟩ | ⟨a, -⟩ | ⟨a, -⟩ | ⟨a, -⟩ <;> rw [a] <;> decide
  | pass iter ocr edge =>
    refine inv.initGoesOn hb ?_ ⟨rfl, rfl, rfl, rfl⟩
    rcases edge with ⟨a, -⟩ | ⟨a, -⟩ <;> rw [a] <;> decide
  | acmd41 edge => exact inv.initGoesOn hb (by rw [edge]; decide) ⟨rfl, rfl, rfl, rfl⟩
  | v1Ready edge => exact inv.initGoesOn hb (by rw [edge]; decide) ⟨rfl, rfl, rfl, rfl⟩
  | commits edge =>
    exact ⟨blockCount_mod _, nofun, fun _ _ => inv.clock hb (by rw [edge]; rfl), inv.evenAcc7⟩

theorem sessionInv_of_busy {s t : State} (inv : SessionInv s) (hb : s.busy = true) (h : BusyCase s t) :
    SessionInv t := by
  cases h with
  | closing minor goes => exact sessionInv_of_closing inv hb goes
  | source7 phase =>
    exact inv.outside ⟨rfl, rfl⟩ (.inr (by dsimp; rw [phase]; decide)) (acc7Step_getLsbD_zero _ _)
  | source7Done => exact inv.outside ⟨rfl, rfl⟩ (.inl rfl) (acc7Step_getLsbD_zero _ _)
  | source16Done => exact inv.outside ⟨rfl, rfl⟩ (.inl rfl) inv.evenAcc7
  | i1 phase =>
    exact ⟨inv.unit, fun _ _ => inv.uncommitted hb (by rw [phase]; rfl), fun _ _ => rfl, inv.evenAcc7⟩
  | i2 phase => exact inv.initGoesOn hb (by rw [phase]; decide) ⟨rfl, rfl, rfl, rfl⟩
  | i10 => exact inv.outside ⟨rfl, rfl⟩ (.inl rfl) inv.evenAcc7
  | waitTick phase major minor goes =>
    rcases goes with ⟨rfl, -⟩ | ⟨rfl, -⟩ | ⟨rfl, -⟩ <;>
      exact inv.outside ⟨rfl, rfl⟩ (.inr ⟨rfl, rfl⟩) inv.evenAcc7
  | payloadByte phase major goes =>
    rcases goes with rfl | rfl <;> exact inv.outside ⟨rfl, rfl⟩ (.inr ⟨rfl, rfl⟩) inv.evenAcc7
  | b1Failed | b1Ready | b8Done | waitBegins | waitToken | waitOther | payloadRead | nextBlock
  | stopsReading | endsReading => exact inv.outside ⟨rfl, rfl⟩ (.inr ⟨rfl, rfl⟩) inv.evenAcc7
  | frame | hold | read | pollAgain | commandDone | callDone | callReads | callSearches | searchFailed
  | searchFound | additionalDone | source16 => exact inv.sameMajor hb rfl ⟨rfl, rfl, rfl, rfl⟩

/-- Settles O53: only INIT's start and its commit write the session, and INIT's steps follow one another. -/
theorem stepKeepsSession : Obligations.StepKeepsSession := by
  intro s t _ inv h
  cases hb : s.busy with
  | true => exact sessionInv_of_busy inv hb (busyCase_of_step hb h)
  | false =>
    rcases restCase_of_step hb h with rfl | ⟨r, rs, -, request⟩
    · exact inv
    · exact sessionInv_of_request (s := { s with requests := rs })
        (inv.keeps ⟨rfl, rfl⟩ inv.evenAcc7 (by simp [hb]) (by simp [hb])) request

end Sys2Proof.Machine

namespace Sys2Proof.Machine

/-! ### The bus invariant -/

/-- The bytes the framer builds are a frame (R97, R98). -/
theorem isFrame_frame (idx : BitVec 6) (arg : Word) : isFrame (frame idx arg) = true := by
  simp [frame, frameHead, bytes32, isFrame, frameFirst_prefix, frameLast_stop, frameLast_crc, frameCrc]

/-- The clauses of the bus invariant about a history and the shadows it leaves. -/
structure BusRecord (h : List Event) (cs : ChipSelect) (mosi : MosiHold) (hz : Nat) : Prop where
  chipSelect : busCs h = cs
  dataOut : busMosi h = mosi
  clock : ∀ rate, busClock h = some rate → hz = rate
  shapes : ∀ e ∈ h, e.emitted = true
  apart : framesApart h

/-- The event does not touch the bus. -/
def Event.offBus : Event → Bool
  | .request _ | .response _ _ | .tick _ | .memWrite _ _ _ | .memRead _ _ _ => true
  | _ => false

theorem Event.offBus_emitted {e : Event} (off : e.offBus = true) : e.emitted = true := by
  cases e <;> simp_all [Event.offBus, Event.emitted]

section
variable {h : List Event} {cs : ChipSelect} {mosi : MosiHold} {hz : Nat}

theorem BusRecord.quiet (r : BusRecord h cs mosi hz) {e : Event} (off : e.offBus = true) :
    BusRecord (e :: h) cs mosi hz := by
  refine ⟨?_, ?_, ?_, List.forall_mem_cons.mpr ⟨Event.offBus_emitted off, r.shapes⟩, ?_⟩
  · rw [← r.chipSelect]
    cases e <;> simp_all [Event.offBus, busCs]
  · rw [← r.dataOut]
    cases e <;> simp_all [Event.offBus, busMosi]
  · have := r.clock
    cases e <;> simp_all [Event.offBus, busClock]
  · have := r.apart
    cases e <;> simp_all [Event.offBus, framesApart]

theorem BusRecord.holds (r : BusRecord h cs mosi hz) : BusRecord (.holdMosi true :: h) cs .held1 hz :=
  ⟨r.chipSelect, rfl, r.clock, List.forall_mem_cons.mpr ⟨rfl, r.shapes⟩, r.apart⟩

theorem BusRecord.releases (r : BusRecord h cs mosi hz) : BusRecord (.releaseMosi :: h) cs .released hz :=
  ⟨r.chipSelect, rfl, r.clock, List.forall_mem_cons.mpr ⟨rfl, r.shapes⟩, r.apart⟩

theorem BusRecord.receives (r : BusRecord h cs mosi hz) {bs : List Byte}
    (length : 1 ≤ bs.length ∧ bs.length ≤ 18 ∨ bs.length = 512) :
    BusRecord (.readContinue bs :: h) .asserted mosi hz :=
  ⟨rfl, r.dataOut, r.clock, List.forall_mem_cons.mpr ⟨by simpa [Event.emitted] using length, r.shapes⟩,
    r.apart⟩

theorem BusRecord.clocks (r : BusRecord h cs mosi hz) {rate : Nat}
    (known : rate = Config.initClockHz ∨ rate = Config.opClockHz) :
    BusRecord (.setClock rate :: h) cs mosi rate :=
  ⟨r.chipSelect, r.dataOut, fun _ last => Option.some.inj last,
    List.forall_mem_cons.mpr ⟨by simpa [Event.emitted] using known, r.shapes⟩, r.apart⟩

theorem BusRecord.toggles (r : BusRecord h cs mosi hz) {n : Nat}
    (known : n = Config.powerOnToggleBytes ∨ n = Config.endToggleBytes) :
    BusRecord (.toggle n :: h) .deasserted mosi hz :=
  ⟨rfl, r.dataOut, r.clock, List.forall_mem_cons.mpr ⟨by simpa [Event.emitted] using known, r.shapes⟩,
    r.apart⟩

theorem BusRecord.sends (r : BusRecord h cs mosi hz) {idx : BitVec 6} {arg : Word}
    (apart : cs = .deasserted ∨ frame idx arg = frame 12 0 ∧ ∃ start, lastFrame h = some (frame 18 start)) :
    BusRecord (.writeContinue (frame idx arg) :: h) .asserted mosi hz :=
  ⟨rfl, r.dataOut, r.clock, List.forall_mem_cons.mpr ⟨isFrame_frame idx arg, r.shapes⟩,
    ⟨by rw [r.chipSelect]; exact apart, r.apart⟩⟩

end

/-- READ's transaction is open and CMD12 was not sent (R245). -/
def State.readIsLast (s : State) : Prop :=
  s.busy = true ∧ (s.phase = ⟨.b1, .t2⟩ ∨ s.phase.major.inBlock = true ∨ s.phase = ⟨.b8, .t1⟩)

/-- The record of the bus that a state keeps. -/
def State.OnRecord (s : State) : Prop := BusRecord s.history s.cs s.mosiHold s.clkHz

theorem BusInv.onRecord {s : State} (inv : BusInv s) : s.OnRecord :=
  ⟨inv.chipSelect, inv.dataOut, inv.clock, inv.shapes, inv.apart⟩

theorem BusInv.ofRecord {t : State} (record : t.OnRecord)
    (readFrame : t.readIsLast →
      lastFrame t.history = some (frame (if t.ops.count = 1 then 17 else 18) t.ops.start)) : BusInv t :=
  ⟨record.chipSelect, record.dataOut, record.clock, record.shapes, record.apart,
    fun busy stage => readFrame ⟨busy, stage⟩⟩

/-- A step that sends no frame and goes on with READ only from within READ. -/
theorem BusInv.keeps {s t : State} (inv : BusInv s) (record : t.OnRecord)
    (same : t.ops = s.ops ∧ lastFrame t.history = lastFrame s.history)
    (stage : t.readIsLast → s.readIsLast) : BusInv t := by
  obtain ⟨ops, last⟩ := same
  refine .ofRecord record (fun reading => ?_)
  obtain ⟨busy, source⟩ := stage reading
  rw [last, ops]
  exact inv.readFrame busy source

/-- A step that is at rest afterwards, or at a label outside READ's open transaction. -/
theorem BusInv.outside {t : State} (record : t.OnRecord) (M : Major) (m : Minor) (phase : t.phase = ⟨M, m⟩)
    (outside : M.inBlock = false ∧ Phase.mk M m ≠ ⟨.b1, .t2⟩ ∧ Phase.mk M m ≠ ⟨.b8, .t1⟩) : BusInv t := by
  obtain ⟨inBlock, b1, b8⟩ := outside
  refine .ofRecord record (fun ⟨_, stage⟩ => ?_)
  rw [phase] at stage
  simp [inBlock, b1, b8] at stage

/-- A step to a later label of the same major. -/
theorem BusInv.sameMajor {s t : State} (inv : BusInv s) (record : t.OnRecord) (hb : s.busy = true)
    (m : Minor) (phase : t.phase = ⟨s.phase.major, m⟩) (later : m ≠ .t1 ∧ m ≠ .t2)
    (same : t.ops = s.ops ∧ lastFrame t.history = lastFrame s.history) : BusInv t := by
  refine inv.keeps record same (fun ⟨_, stage⟩ => ⟨hb, ?_⟩)
  rw [phase] at stage
  rcases stage with b1 | inBlock | b8
  · exact absurd (congrArg Phase.minor b1) later.2
  · exact .inr (.inl inBlock)
  · exact absurd (congrArg Phase.minor b8) later.1

theorem busInv_of_request {s t : State} {i : Instr} (record : s.OnRecord) (h : RequestCase s i t) :
    BusInv t := by
  have taken : BusRecord (.request i :: s.history) s.cs s.mosiHold s.clkHz := record.quiet rfl
  cases h with
  | answered => exact .outside (taken.quiet rfl) .idle .none rfl (by decide)
  | init => exact .outside taken .i1 .none rfl (by decide)
  | read => exact .outside taken .b1 .t1 rfl (by decide)
  | cmd => exact .outside taken .x1 .t1 rfl (by decide)
  | cmdr => exact .outside taken .x2 .t1 rfl (by decide)
  | crc7 => exact .outside taken .k7 .none rfl (by decide)
  | crc16 => exact .outside taken .k16 .none rfl (by decide)

theorem busInv_of_closing {s t : State} (record : s.OnRecord) (h : ClosingCase s t) : BusInv t := by
  have closed : BusRecord (.toggle 1 :: s.history) .deasserted s.mosiHold s.clkHz :=
    record.toggles (.inr rfl)
  cases h with
  | answers => exact .outside (closed.quiet rfl) .idle .none rfl (by decide)
  | calls major v2 iter ocr ccsNew edge =>
    rcases Major.nextCall_cases edge with ⟨-, rfl⟩ | ⟨-, rfl⟩ | ⟨-, rfl⟩ | ⟨-, rfl⟩ | ⟨-, rfl⟩ <;>
      exact .outside closed _ .t1 rfl (by decide)
  | pass => exact .outside closed .i6a .t1 rfl (by decide)
  | acmd41 => exact .outside closed .i6b .t1 rfl (by decide)
  | v1Ready => exact .outside closed .i10 .none rfl (by decide)
  | commits => exact .outside closed .i10 .none rfl (by decide)

/-- Every read has a length of R71. -/
theorem ReadSize.length {s : State} (inv : ControlInv s) (n : Nat) (size : ReadSize s n) :
    1 ≤ n ∧ n ≤ 18 ∨ n = 512 := by
  cases size with
  | poll | search | token | crc => exact .inl (by decide)
  | payload => exact .inr rfl
  | additional idx arg n minor command =>
    have x2 (major : s.phase.major = .x2) : 1 < s.ops.size ∧ s.ops.size ≤ 19 :=
      ⟨inv.additional major (.inr minor), inv.cmdrSize major⟩
    unfold State.command at command
    split at command <;> cases command
    · have := x2 ‹_›
      left
      bv_omega
    all_goals exact .inl (by decide)

/-- The frame of a step is sent with chip-select released, but for CMD12 (R311). -/
theorem frame_apart {s : State} (ctl : ControlInv s) (inv : BusInv s) (hb : s.busy = true)
    {idx : BitVec 6} {arg : Word} {size : Option Nat} (minor : s.phase.minor = .t1)
    (command : s.command = some (idx, arg, size)) :
    s.cs = .deasserted ∨
      frame idx arg = frame 12 0 ∧ ∃ start, lastFrame s.history = some (frame 18 start) := by
  by_cases b8 : s.phase.major = .b8
  · have last := inv.readFrame hb (.inr (.inr (phase_eq b8 minor)))
    have many : s.ops.count ≠ 1 := fun one => absurd (one ▸ ctl.multiBlock b8) (by decide)
    rw [if_neg many] at last
    rw [State.command, b8] at command
    cases command
    exact .inr ⟨rfl, s.ops.start, last⟩
  · obtain ⟨-, -, -, inBlock, -⟩ := major_of_minor_mem (ctl.running hb).2 (by simp [minor])
    have outside : s.phase.inTransaction = false := by
      cases major : s.phase.major <;> simp_all [Phase.inTransaction, Major.inBlock]
    rw [ctl.chipSelect hb, outside]
    exact .inl rfl

/-- The last frame of READ is its read command, until CMD12 (R245). -/
theorem readFrame_of_frame {s : State} (ctl : ControlInv s) (hb : s.busy = true) {idx : BitVec 6}
    {arg : Word} {size : Option Nat} (minor : s.phase.minor = .t1)
    (command : s.command = some (idx, arg, size)) (reading : (s.beginTransaction idx arg).readIsLast) :
    frame idx arg = frame (if s.ops.count = 1 then 17 else 18) s.ops.start := by
  obtain ⟨-, -, -, inBlock, -⟩ := major_of_minor_mem (ctl.running hb).2 (by simp [minor])
  have b1 : s.phase.major = .b1 := by
    simpa [State.readIsLast, hb, inBlock] using reading
  rw [State.command, b1] at command
  cases command
  rfl

theorem busInv_of_busy {s t : State} (ctl : ControlInv s) (inv : BusInv s) (hb : s.busy = true)
    (h : BusyCase s t) : BusInv t := by
  have record := inv.onRecord
  have readDone : s.readDone.OnRecord := record.releases
  have inBlock {M : Major} (phase : s.phase = ⟨M, .none⟩) (block : M.inBlock = true) : s.readIsLast :=
    ⟨hb, .inr (.inl (by rw [phase]; exact block))⟩
  cases h with
  | frame idx arg size minor command =>
    exact .ofRecord (record.sends (frame_apart ctl inv hb minor command))
      (fun reading => congrArg some (readFrame_of_frame ctl hb minor command reading))
  | hold => exact inv.keeps record.holds ⟨rfl, rfl⟩ id
  | read n size =>
    exact inv.keeps (record.receives (bs := s.incoming n) (by
      rw [incoming_length]; exact size.length ctl)) ⟨rfl, rfl⟩ id
  | pollAgain => exact inv.keeps readDone ⟨rfl, rfl⟩ id
  | commandDone | callDone | searchFailed | additionalDone =>
    exact inv.sameMajor readDone hb .t9 rfl (by decide) ⟨rfl, rfl⟩
  | callReads | searchFound => exact inv.sameMajor readDone hb .t4 rfl (by decide) ⟨rfl, rfl⟩
  | callSearches => exact inv.sameMajor readDone hb .t3 rfl (by decide) ⟨rfl, rfl⟩
  | closing minor goes => exact busInv_of_closing record goes
  | source7 phase | source16 phase => exact inv.keeps (record.quiet rfl) ⟨rfl, rfl⟩ id
  | source7Done | source16Done =>
    exact .outside ((record.quiet rfl).quiet rfl) .idle .none rfl (by decide)
  | i1 => exact .outside (record.clocks (.inl rfl)) .i2 .none rfl (by decide)
  | i2 => exact .outside (record.toggles (.inl rfl)) .i3 .t1 rfl (by decide)
  | i10 => exact .outside ((record.clocks (.inr rfl)).quiet rfl) .idle .none rfl (by decide)
  | b1Failed | b8Done | endsReading => exact .outside readDone .b9 .t9 rfl (by decide)
  | b1Ready phase => exact inv.keeps readDone ⟨rfl, rfl⟩ (fun _ => ⟨hb, .inl phase⟩)
  | waitBegins phase => exact inv.keeps (record.quiet rfl) ⟨rfl, rfl⟩ (fun _ => inBlock phase rfl)
  | waitTick phase => exact inv.keeps (record.quiet rfl) ⟨rfl, rfl⟩ (fun _ => inBlock phase rfl)
  | payloadByte phase => exact inv.keeps (record.quiet rfl) ⟨rfl, rfl⟩ (fun _ => inBlock phase rfl)
  | waitToken phase | waitOther phase | payloadRead phase | nextBlock phase | stopsReading phase =>
    exact inv.keeps readDone ⟨rfl, rfl⟩ (fun _ => inBlock phase rfl)

/-- Settles O55: each event of a step leaves the shadows as the history says, and a frame is sent only where
chip-select is released or CMD12 is due. -/
theorem stepKeepsBus : Obligations.StepKeepsBus := by
  intro s t ctl inv h
  cases hb : s.busy with
  | true => exact busInv_of_busy ctl inv hb (busyCase_of_step hb h)
  | false =>
    rcases restCase_of_step hb h with rfl | ⟨r, rs, -, request⟩
    · exact inv
    · exact busInv_of_request (s := { s with requests := rs }) inv.onRecord request

end Sys2Proof.Machine

namespace Sys2Proof.Machine

/-! ### What single steps write -/

/-- A step at which the operation goes on leaves operands and results and raises no response (R31). -/
def State.resultsKept (s t : State) : Prop :=
  t.ops = s.ops ∧ t.busy = true ∧ t.kind = s.kind ∧ t.status = s.status ∧
    t.history.countP Event.isResponse = s.history.countP Event.isResponse

/-- A step that ends the operation raises the one response, which the result registers hold (R31). -/
def State.resultsGiven (s t : State) : Prop :=
  t.ops = s.ops ∧ t.busy = false ∧ t.phase = Phase.rest ∧ ∃ h, t.history = .response t.kind t.status :: h ∧
    h.countP Event.isResponse = s.history.countP Event.isResponse

theorem results_of_closing {s t : State} (hb : s.busy = true) (h : ClosingCase s t) :
    s.resultsKept t ∨ s.resultsGiven t := by
  cases h with
  | answers => exact .inr ⟨rfl, rfl, rfl, _, rfl, rfl⟩
  | calls | pass | acmd41 | v1Ready | commits => exact .inl ⟨rfl, hb, rfl, rfl, rfl⟩

theorem results_of_busy {s t : State} (hb : s.busy = true) (h : BusyCase s t) :
    s.resultsKept t ∨ s.resultsGiven t := by
  cases h with
  | closing minor goes => exact results_of_closing hb goes
  | source7Done | source16Done | i10 => exact .inr ⟨rfl, rfl, rfl, _, rfl, rfl⟩
  | _ => exact .inl ⟨rfl, hb, rfl, rfl, rfl⟩

/-- Settles O57: the cases of a busy step that end the operation are the answers after a transaction, the
last source byte and `I10`. -/
theorem operandsAndResults : Obligations.OperandsAndResults := by
  intro s t hb h
  rcases results_of_busy hb (busyCase_of_step hb h) with ⟨ops, kept⟩ | ⟨ops, given⟩
  · exact ⟨ops, .inl kept⟩
  · exact ⟨ops, .inr given⟩

theorem op_of_toInstr_init {r : Request} (h : r.toInstr = .init) : r.op = 1 := by
  unfold Request.toInstr at h
  split_ifs at h with op
  exact op

/-- A busy step writes `blocks` and `ccs` only at the commit (R226). -/
theorem session_of_busy {s t : State} (h : BusyCase s t) :
    (t.blocks = s.blocks ∧ t.ccs = s.ccs) ∨
    (s.phase = ⟨.i9, .t9⟩ ∧ s.r1 = 0x00 ∧ s.tokenMissing = false ∧
      csdCrc s.resp = csdRxCrc s.resp ∧ t.ccs = s.ccsNew) := by
  cases h with
  | closing minor goes =>
    cases goes with
    | commits i9 r1 token crc => exact .inr ⟨phase_eq i9 minor, r1, token, crc, rfl⟩
    | answers | calls | pass | acmd41 | v1Ready => exact .inl ⟨rfl, rfl⟩
  | _ => exact .inl ⟨rfl, rfl⟩

/-- A request writes `blocks` and `ccs` only when it is an INIT (R203). -/
theorem session_of_request {s t : State} {i : Instr} (h : RequestCase s i t) :
    (t.blocks = s.blocks ∧ t.ccs = s.ccs) ∨ (i = .init ∧ t.blocks = 0 ∧ t.ccs = false) := by
  cases h with
  | init o count instr => exact .inr ⟨instr, rfl, rfl⟩
  | _ => exact .inl ⟨rfl, rfl⟩

/-- Settles O58: of all steps only INIT's acceptance and the commit at `I9` write the session registers. -/
theorem sessionWriters : Obligations.SessionWriters := by
  intro s t h
  cases hb : s.busy with
  | true =>
    rcases session_of_busy (busyCase_of_step hb h) with same | commit
    · exact .inl same
    · exact .inr (.inr ⟨rfl, commit⟩)
  | false =>
    rcases restCase_of_step hb h with rfl | ⟨r, rs, pending, request⟩
    · exact .inl ⟨rfl, rfl⟩
    rcases session_of_request request with same | ⟨instr, blocks, ccs⟩
    · exact .inl same
    · exact .inr (.inl ⟨rfl, ⟨r, rs, pending, op_of_toInstr_init instr⟩, blocks, ccs⟩)

/-! ### Requests -/

theorem busyCase_requests {s t : State} (h : BusyCase s t) : t.requests = s.requests := by
  cases h with
  | closing minor goes => cases goes <;> rfl
  | _ => rfl

/-- Every request is refused while the block is busy (R38). -/
theorem exec_request_busy {s : State} {r : Request} (hb : s.busy = true) :
    exec r.toInstr s = .refused .requestWhileBusy := by
  have reserved (i : Instr) : answerReserved i s = .refused .requestWhileBusy := if_pos hb
  unfold Request.toInstr
  split_ifs
  · rw [exec, execInit, accept_busy _ _ _ _ hb]
  · rw [exec, execRead, accept_busy _ _ _ _ hb]
  · rw [exec, execCmd, accept_busy _ _ _ _ hb]
  · rw [exec, execCmdr, accept_busy _ _ _ _ hb]
  · rw [exec, execCrc7, accept_busy _ _ _ _ hb]
  · rw [exec, execCrc16, accept_busy _ _ _ _ hb]
  · exact reserved _
  · exact reserved _

/-- Settles O16: acceptance asks for `busy` clear, and no busy step touches the queue. -/
theorem requestsWhileBusy : Obligations.RequestsWhileBusy := by
  intro s r hb
  exact ⟨exec_request_busy hb, fun t h => busyCase_requests (busyCase_of_step hb h)⟩

/-- Settles O10: INIT's acceptance step. -/
theorem initRequest : Obligations.InitRequest := by
  intro s hb
  refine ⟨{ Config.unspecifiedOperands s.freeCount with op := 1 }, rfl, ?_⟩
  rw [exec, execInit, accept_rest _ _ _ _ hb]
  rfl

/-- Settles O12: CMD's acceptance step. -/
theorem cmdRequest : Obligations.CmdRequest := by
  intro s idx arg hb
  refine ⟨{ Config.unspecifiedOperands s.freeCount with op := 3, idx := idx, arg := arg },
    rfl, rfl, rfl, ?_⟩
  rw [exec, execCmd, accept_rest _ _ _ _ hb]
  rfl

/-- Settles O13: the size check of the acceptance step is the bound of R94. -/
theorem cmdrRequest : Obligations.CmdrRequest := by
  intro s idx arg size hb
  refine ⟨{ Config.unspecifiedOperands s.freeCount with op := 4, idx := idx, arg := arg, size := size },
    rfl, rfl, rfl, rfl, ?_⟩
  rw [exec, execCmdr, accept_rest _ _ _ _ hb]
  split_ifs with legal large
  · bv_omega
  · rfl
  · rfl
  · bv_omega

/-! ### What a step runs -/

/-- Settles O20, by induction on the number of steps. -/
theorem restWaits : Obligations.RestWaits := by
  intro s n hb hq
  induction n with
  | zero => rfl
  | succ n ih => rw [run_succ n s s (step_rest_idle s hb hq), ih]

/-- Settles O19: the request at rest, the frame at `T1` and the pending token each decode to themselves. -/
theorem stepRunsFetched : Obligations.StepRunsFetched := by
  intro s
  refine ⟨fun bytes i rest fetched decoded => ?_, fun r rs hb hq => step_rest_request s r rs hb hq,
    fun idx arg size hb minor command => ?_, step_pending_token s⟩
  · simp [step, fetched, decoded]
  · rw [step_frame s idx arg size hb minor command, exec_frameInstr]

end Sys2Proof.Machine

namespace Sys2Proof.Machine

/-! ### Where INIT's transactions end -/

/-- At `T9` the transaction is closed and its operation goes on (R166). -/
theorem step_closing (s : State) (hb : s.busy = true) (hm : s.phase.minor = .t9) :
    step s = afterTransaction (s.toggle 1) := by
  have hw : s.phase.awaitsToken = false := awaitsToken_eq_false (by simp [hm]) (by simp [hm])
  rw [step_busy s hb (by simp [hm]) (.inl hw), advance, if_pos hb, hm]
  cases hc : s.command with
  | none => rfl
  | some c => simp only [advanceTransaction, hm]; rfl

/-- Settles O30: the branch on R1 after CMD0. -/
theorem initAfterCmd0 : Obligations.InitAfterCmd0 := by
  intro s hb phase
  rw [step_closing s hb (by rw [phase]), afterTransaction, State.toggle_phase, phase]
  dsimp only
  rw [afterI3, State.toggle_r1]
  by_cases r1 : s.r1 = 0x01
  · rw [if_neg (not_not.mpr r1), if_pos r1]
    rfl
  · rw [if_pos r1, if_neg r1]
    rfl

/-- Settles O31: the branches on R1, and on the echo when R1 is 0x01. -/
theorem initAfterCmd8 : Obligations.InitAfterCmd8 := by
  intro s hb phase
  rw [step_closing s hb (by rw [phase]), afterTransaction, State.toggle_phase, phase]
  dsimp only
  rw [afterI4, State.toggle_r1, State.toggle_resp, show echoPattern = 0xAA from rfl, echoByte]
  by_cases v1 : s.r1 = 0x05
  · rw [if_pos v1, if_pos v1]
    rfl
  rw [if_neg v1, if_neg v1]
  by_cases idle : s.r1 = 0x01
  · rw [if_pos idle, if_pos idle]
    by_cases echo : s.resp[3] = 0xAA
    · rw [if_pos ⟨idle, echo⟩, if_pos echo]
      rfl
    · rw [if_neg (fun h => echo h.2), if_neg echo]
      rfl
  · rw [if_neg (fun h => idle h.1), if_neg idle, if_neg idle]
    rfl

theorem iterExhausted_iff (iter : Nat) : iterExhausted iter = true ↔ Config.acmd41MaxIter = some iter := by
  simp [iterExhausted]

/-- Settles O33: the three labels, and at ACMD41's the branches of R213 and R217. -/
theorem initLoop : Obligations.InitLoop := by
  intro s hb minor
  rw [step_closing s hb minor, afterTransaction, State.toggle_phase]
  refine ⟨fun major => ?_, fun major => ?_, fun major => ?_⟩ <;> rw [major] <;> dsimp only
  · rfl
  · rfl
  rw [afterI6b]
  dsimp only
  rw [State.toggle_r1, State.toggle_v2]
  by_cases ready : s.r1 = 0x00
  · rw [if_pos ready, if_pos ready]
    by_cases v2 : s.v2 = true
    · rw [if_pos v2, if_pos v2]
      rfl
    · rw [if_neg v2, if_neg v2]
      rfl
  · rw [if_neg ready, if_neg ready, loopHead]
    dsimp only
    rw [State.toggle_iter]
    by_cases full : Config.acmd41MaxIter = some (s.iter + 1)
    · rw [if_pos full, if_pos ((iterExhausted_iff _).mpr full)]
      rfl
    · rw [if_neg full, if_neg (mt (iterExhausted_iff _).mp full)]
      rfl

/-- The power-up bit is bit 7 of the first byte of the OCR (R104). -/
theorem ocrPowerUp_be32 (b0 b1 b2 b3 : Byte) : ocrPowerUp (be32 b0 b1 b2 b3) = b0.getLsbD 7 := by
  simp only [ocrPowerUp, be32, BitVec.getLsbD_append]
  rfl

/-- The card-capacity bit is bit 6 of the first byte of the OCR (R104). -/
theorem ocrCcs_be32 (b0 b1 b2 b3 : Byte) : ocrCcs (be32 b0 b1 b2 b3) = b0.getLsbD 6 := by
  simp only [ocrCcs, be32, BitVec.getLsbD_append]
  rfl

/-- Settles O34: R1 first, then the power-up bit (R219, R220). -/
theorem initAfterSecondCmd58 : Obligations.InitAfterSecondCmd58 := by
  intro s hb phase
  rw [step_closing s hb (by rw [phase]), afterTransaction, State.toggle_phase, phase]
  dsimp only
  rw [afterI7, State.toggle_r1, State.toggle_resp]
  dsimp only
  rw [ocrOf, ocrPowerUp_be32, ocrCcs_be32]
  by_cases r1 : s.r1 = 0x00
  · rw [if_neg (not_not.mpr r1), if_pos r1]
    cases s.resp[0].getLsbD 7 <;> rfl
  · rw [if_pos r1, if_neg r1]
    rfl

/-! ### Reset -/

theorem controlInv_reset : ControlInv State.reset := .ofRest rfl rfl rfl rfl rfl

theorem sessionInv_reset : SessionInv State.reset := ⟨rfl, nofun, nofun, rfl⟩

theorem blockInv_reset : BlockInv State.reset := ⟨nofun, nofun, nofun, nofun⟩

theorem busInv_reset : BusInv State.reset := ⟨rfl, rfl, nofun, nofun, trivial, nofun⟩

/-- Settles O50: the values are read off, and each invariant holds at rest with an empty history. -/
theorem resetValues : Obligations.ResetValues :=
  ⟨rfl, rfl, rfl, rfl, rfl, rfl, rfl, rfl, controlInv_reset, sessionInv_reset, blockInv_reset, busInv_reset,
    fun _ => ⟨rfl, rfl, rfl⟩⟩

end Sys2Proof.Machine

namespace Sys2Proof.Machine

/-! ### Reads, from their first event to their last -/

/-- `s` after the first two events of an `RxBytes`, the bytes stored and the `ReleaseMosi` pending. -/
def State.latched (s : State) (n : Nat) (store : List Byte → State → State) : State :=
  { store (s.incoming n) ({ s.holdMosi with rxStage := .read }.readContinue n) with rxStage := .release }

/-- The three events of an `RxBytes`, at a label whose step is that `RxBytes` while no byte is received
(R17). -/
theorem run_rxBytes {s t : State} {n : Nat} {store : List Byte → State → State} {after : State → State}
    (stage : s.rxStage = .hold)
    (label : ∀ u : State, u.busy = s.busy → u.phase = s.phase → u.ops = s.ops → u.rxStage ≠ .release →
      step u = .next (rxBytes n store after u))
    (last : step (s.latched n store) = .next t) : run 3 s = .next t := by
  have first := label s rfl rfl rfl (by simp [stage])
  have second := label { s.holdMosi with rxStage := .read } rfl rfl rfl (by simp)
  rw [rxBytes_hold _ _ _ _ stage] at first
  rw [rxBytes_read _ _ _ _ rfl] at second
  rw [run_succ 2 _ _ first, run_succ 1 _ _ second, run_one]
  exact last

/-- The same where the third event, too, is the label's: no token ends the read. -/
theorem run_rxBytes_plain {s : State} {n : Nat} {store : List Byte → State → State} {after : State → State}
    (stage : s.rxStage = .hold)
    (kept : ∀ bs u, (store bs u).busy = u.busy ∧ (store bs u).phase = u.phase ∧ (store bs u).ops = u.ops)
    (label : ∀ u : State, u.busy = s.busy → u.phase = s.phase → u.ops = s.ops →
      step u = .next (rxBytes n store after u)) :
    run 3 s = .next (after (s.latched n store).readDone) := by
  obtain ⟨busy, phase, ops⟩ := kept (s.incoming n) ({ s.holdMosi with rxStage := .read }.readContinue n)
  refine run_rxBytes stage (fun u busy phase ops _ => label u busy phase ops) ?_
  rw [label (s.latched n store) busy phase ops, rxBytes_release _ _ _ _ rfl]
  rfl

/-! #### The R1 poll -/

theorem step_poll (s : State) (c : BitVec 6 × Word × Option Nat) (hb : s.busy = true)
    (hm : s.phase.minor = .t2) (hc : s.command = some c) : step s = .next (stepT2 c.1 c.2.2 s) := by
  have hw : s.phase.awaitsToken = false := awaitsToken_eq_false (by simp [hm]) (by simp [hm])
  rw [step_busy s hb (by simp [hm]) (.inl hw), advance, if_pos hb, hm, hc]
  simp only [advanceTransaction, hm]

theorem command_congr {s u : State} (phase : u.phase = s.phase) (ops : u.ops = s.ops) :
    u.command = s.command := by
  rw [State.command, State.command, phase, ops]

/-- `s` after one read of the R1 poll (R162). -/
def State.polled (s : State) : State :=
  { s.received 1 with r1 := s.nextByte, attempt := s.attempt + 1 }

/-- One read of the R1 poll, and what follows when it was the last. -/
theorem run_poll {s : State} {c : BitVec 6 × Word × Option Nat} (hb : s.busy = true)
    (hm : s.phase.minor = .t2) (stage : s.rxStage = .hold) (hc : s.command = some c) :
    run 3 s = .next (if pollEnds s.nextByte (s.attempt + 1) then afterPoll c.1 c.2.2 s.polled
      else s.polled) := by
  have poll := run_rxBytes_plain (n := 1) (store := fun bs s => { s with r1 := bs.headD 0 }) stage
    (fun _ _ => ⟨rfl, rfl, rfl⟩) (fun u busy phase ops =>
      step_poll u c (busy.trans hb) (by rw [phase, hm]) (by rw [command_congr phase ops, hc]))
  have received : (s.latched 1 fun bs s => { s with r1 := bs.headD 0 }).readDone =
      { s.received 1 with r1 := s.nextByte } := rfl
  rw [poll, received]
  rfl

theorem afterPoll_minor (idx : BitVec 6) (size : Option Nat) (s : State) :
    (afterPoll idx size s).phase.minor ≠ .t2 := by
  unfold afterPoll afterB1
  split
  · split_ifs <;> simp
  · simp
  · simp
  · dsimp only
    split_ifs <;> simp

theorem afterPoll_r1 (idx : BitVec 6) (size : Option Nat) (s : State) :
    (afterPoll idx size s).r1 = s.r1 := by
  unfold afterPoll afterB1
  split
  · split_ifs <;> rfl
  · rfl
  · rfl
  · dsimp only
    split_ifs <;> rfl

theorem pollEnds_eq_false_iff (r : Byte) (attempt : BitVec 4) :
    pollEnds r attempt = false ↔ r.getLsbD 7 = true ∧ attempt ≠ 8 := by
  simp [pollEnds, r1Busy, Config.ncrAttempts]

/-- Settles O23: the two branches of `run_poll`. -/
theorem pollReads : Obligations.PollReads := by
  intro s c hb hm stage hc
  have poll := run_poll hb hm stage hc
  dsimp only
  split_ifs with goesOn <;> rw [← pollEnds_eq_false_iff] at goesOn
  · rw [goesOn] at poll
    exact poll
  · rw [if_pos (Bool.eq_true_of_not_eq_false goesOn)] at poll
    exact ⟨_, poll, afterPoll_minor _ _ _, afterPoll_r1 _ _ _, afterPoll_history _ _ _⟩

/-! #### The search for a register's token -/

theorem step_search (s : State) (hb : s.busy = true) (hm : s.phase.minor = .t3)
    (hw : s.phase.awaitsToken = true) (other : s.rxStage ≠ .release ∨ s.tok ≠ dataStartByte) :
    step s = .next (stepT3 s) := by
  have command : s.command.isSome = true := by
    rcases (awaitsToken_iff _).mp hw with ⟨-, h⟩ | ⟨-, h | h | h⟩
    · simp [hm] at h
    all_goals simp [State.command, h]
  obtain ⟨c, hc⟩ := Option.isSome_iff_exists.mp command
  rw [step_busy s hb (by simp [hm]) (.inr other), advance, if_pos hb, hm, hc]
  simp only [advanceTransaction, hm, hw, if_true]

/-- The last event of one read of the search: the token's when the byte is 0xFE, else the poll's (R109,
R165). -/
theorem step_search_release (s : State) (hb : s.busy = true) (hm : s.phase.minor = .t3)
    (major : s.phase.major = .x2 ∨ s.phase.major = .i8 ∨ s.phase.major = .i9) (stage : s.rxStage = .release) :
    step s = .next (
      if s.tok = 0xFE then
        { s.readDone with attempt := s.attempt + 1, phase := ⟨s.phase.major, .t4⟩ }
      else if s.attempt + 1 = 8 then
        { s.readDone with attempt := s.attempt + 1, tokenMissing := true, phase := ⟨s.phase.major, .t9⟩ }
      else { s.readDone with attempt := s.attempt + 1 }) := by
  have hw : s.phase.awaitsToken = true := (awaitsToken_iff _).mpr (.inr ⟨hm, major⟩)
  by_cases token : s.tok = 0xFE
  · have pending := (tokenPending_iff s).mpr ⟨hb, hw, stage⟩
    rw [if_pos token, step_pending_token s pending token, execDataStartToken, if_pos pending]
    dsimp only
    rw [if_neg (by rcases major with h | h | h <;> simp [h])]
    rfl
  · rw [if_neg token, step_search s hb hm hw (.inr token), stepT3, rxBytes_release _ _ _ _ stage]
    rfl

/-- Settles O25: the first two events are the poll's, the third branches on the byte. -/
theorem registerTokenPoll : Obligations.RegisterTokenPoll := by
  intro s hb hm stage major
  have hw : s.phase.awaitsToken = true := (awaitsToken_iff _).mpr (.inr ⟨hm, major⟩)
  have received : (s.latched 1 fun bs s => { s with tok := bs.headD 0 }).readDone =
      { s.received 1 with tok := s.nextByte } := rfl
  have last := step_search_release (s.latched 1 fun bs s => { s with tok := bs.headD 0 }) hb hm major rfl
  rw [received] at last
  exact run_rxBytes stage (fun u busy phase ops other =>
    step_search u (busy.trans hb) (by rw [phase, hm]) (by rw [phase, hw]) (.inl other)) last

/-! #### The additional bytes -/

theorem step_additional (s : State) (idx : BitVec 6) (arg : Word) (n : Nat) (hb : s.busy = true)
    (hm : s.phase.minor = .t4) (hc : s.command = some (idx, arg, some n)) :
    step s = .next (stepT4 n s) := by
  have hw : s.phase.awaitsToken = false := awaitsToken_eq_false (by simp [hm]) (by simp [hm])
  rw [step_busy s hb (by simp [hm]) (.inl hw), advance, if_pos hb, hm, hc]
  simp only [advanceTransaction, hm]

theorem run_additional {s : State} {idx : BitVec 6} {arg : Word} {n : Nat} (hb : s.busy = true)
    (hm : s.phase.minor = .t4) (stage : s.rxStage = .hold) (hc : s.command = some (idx, arg, some n)) :
    run 3 s = .next { s.received (n - 1) with
      resp := storeFrom s.resp 0 (s.incoming (n - 1)), phase := ⟨s.phase.major, .t9⟩ } := by
  have read := run_rxBytes_plain (n := n - 1)
    (store := fun bs s => { s with resp := storeFrom s.resp 0 bs }) stage
    (fun _ _ => ⟨rfl, rfl, rfl⟩) (fun u busy phase ops =>
      step_additional u idx arg n (busy.trans hb) (by rw [phase, hm]) (by rw [command_congr phase ops, hc]))
  have received : (s.latched (n - 1) fun bs s => { s with resp := storeFrom s.resp 0 bs }).readDone =
      { s.received (n - 1) with resp := storeFrom s.resp 0 (s.incoming (n - 1)) } := rfl
  rw [read, received]
  rfl

/-- The registers of a file after bytes were stored from index 0 on (R33). -/
theorem storeFrom_zero_get {n : Nat} (v : Vector Byte n) (bs : List Byte) (i : Nat) (hi : i < n) :
    (storeFrom v 0 bs)[i] = if i < bs.length then bs.getD i 0 else v[i] := by
  rw [storeFrom_get]
  by_cases h : i < bs.length <;> simp [h]

/-- Settles O26: one read of `n - 1` bytes, stored from index 0 on. -/
theorem additionalBytes : Obligations.AdditionalBytes := by
  intro s idx arg n hb hm stage hc
  refine ⟨_, run_additional hb hm stage hc, fun i hi => ?_⟩
  rw [storeFrom_zero_get, incoming_length]

end Sys2Proof.Machine

namespace Sys2Proof.Machine

/-! ### The table forms of the checksum units -/

theorem acc7Init_xor (c d : BitVec 7) : acc7Init (c ^^^ d) = acc7Init c ^^^ acc7Init d := by
  simp [acc7Init, BitVec.setWidth_xor, BitVec.shiftLeft_xor_distrib]

theorem acc7Init_shiftLeft (c : BitVec 7) : acc7Init (c <<< 1) = acc7Init c <<< 1 := by
  revert c; decide

theorem acc7Init_getLsbD_seven (c : BitVec 7) : (acc7Init c).getLsbD 7 = c.getLsbD 6 := by
  revert c; decide

theorem acc7Result_acc7Init (c : BitVec 7) : acc7Result (acc7Init c) = c := by
  revert c; decide

/-- One step of the table's rule shifts the next bit of the byte `x` into the remainder (R131, R134). -/
theorem t7Step_acc7Init (c : BitVec 7) (x : Byte) :
    t7Step (acc7Init c ^^^ x) = acc7Init (crc7Bit c (x.getLsbD 7)) ^^^ (x <<< 1) := by
  have shifted : (acc7Init c ^^^ x) <<< 1 = acc7Init (c <<< 1) ^^^ (x <<< 1) := by
    rw [BitVec.shiftLeft_xor_distrib, acc7Init_shiftLeft]
  rw [t7Step, crc7Bit, BitVec.getLsbD_xor, acc7Init_getLsbD_seven, shifted]
  split_ifs
  · rw [acc7Init_xor, show acc7Init 0x09#7 = 0x12#8 from rfl, BitVec.xor_assoc, BitVec.xor_assoc,
      BitVec.xor_comm (x <<< 1)]
  · rfl

/-- One byte of the accumulator form is one byte of the bit by bit form (R131, R133). -/
theorem acc7Step_acc7Init (c : BitVec 7) (b : Byte) : acc7Step (acc7Init c) b = acc7Init (crc7Byte c b) := by
  simp only [acc7Step, t7, eightTimes, t7Step_acc7Init, crc7Byte, List.foldl]
  simp [← BitVec.shiftLeft_add]

/-- The accumulator form computes `Crc7`, kept in bits 7:1 (R133). -/
theorem foldl_acc7Step (buf : List Byte) (r : BitVec 7) :
    buf.foldl acc7Step (acc7Init r) = acc7Init (crc7 buf r) := by
  induction buf generalizing r with
  | nil => rfl
  | cons b bs ih => rw [List.foldl_cons, acc7Step_acc7Init, ih, crc7_cons]

theorem crc16Shift_xor (c d : Half) : crc16Shift (c ^^^ d) = crc16Shift c ^^^ crc16Shift d := by
  have cancel (a b k : Half) : a ^^^ b = (a ^^^ k) ^^^ (b ^^^ k) := by
    rw [BitVec.xor_assoc, BitVec.xor_comm k, BitVec.xor_assoc b, BitVec.xor_self, BitVec.xor_zero]
  unfold crc16Shift
  rw [BitVec.getLsbD_xor, BitVec.shiftLeft_xor_distrib]
  cases c.getLsbD 15 <;> cases d.getLsbD 15 <;> dsimp
  · exact BitVec.xor_assoc _ _ _
  · rw [BitVec.xor_assoc, BitVec.xor_assoc, BitVec.xor_comm _ 0x1021#16]
  · exact cancel _ _ _

theorem eightTimes_xor (c d : Half) : eightTimes crc16Shift (c ^^^ d) =
    eightTimes crc16Shift c ^^^ eightTimes crc16Shift d := by
  simp only [eightTimes, crc16Shift_xor]

/-- Eight shifts of a low byte reach no feedback (R144). -/
theorem eightTimes_low (x : Byte) : eightTimes crc16Shift (x.setWidth 16) = x.setWidth 16 <<< 8 := by
  revert x; decide

/-- One byte of the table form is one byte of the bit by bit form (R141, R143). -/
theorem acc16Step_eq (c : Half) (b : Byte) : acc16Step c b = crc16Byte c b := by
  have low : c <<< 8 = (c.setWidth 8).setWidth 16 <<< 8 := by
    ext i hi
    by_cases h : i < 8
    · simp [h]
    · have low : i - 8 < 8 := by omega
      have inside : i - 8 < 16 := by omega
      simp [hi, low, inside, ← BitVec.getLsbD_eq_getElem]
  have split : c ^^^ (b.setWidth 16 <<< 8) =
      (c.setWidth 8).setWidth 16 ^^^ (((c >>> 8).setWidth 8 ^^^ b).setWidth 16 <<< 8) := by
    ext i hi
    by_cases h : i < 8
    · simp [h, BitVec.getLsbD_eq_getElem, hi]
    · have : i - 8 < 8 := by omega
      have : 8 + (i - 8) = i := by omega
      simp [*, BitVec.getLsbD_eq_getElem]
  rw [acc16Step, crc16Byte, split, eightTimes_xor, eightTimes_low, t16, low]

/-- The table form computes `Crc16` (R143). -/
theorem foldl_acc16Step (buf : List Byte) (r : Half) : buf.foldl acc16Step r = crc16 buf r := by
  induction buf generalizing r with
  | nil => rfl
  | cons b bs ih => rw [List.foldl_cons, acc16Step_eq, ih, crc16_cons]

end Sys2Proof.Machine

namespace Sys2Proof.Machine

/-! ### The CRC operations, from request to answer -/

/-- The reads of consecutive source bytes from offset `k` on, newest first (R137, R147). -/
def sourceEventsFrom (src : Handle) (k : Nat) (bytes : List Byte) : List Event :=
  ((bytes.zipIdx k).map (fun x => .memRead src x.2 x.1)).reverse

theorem sourceEventsFrom_cons (src : Handle) (k : Nat) (b : Byte) (bs : List Byte) :
    sourceEventsFrom src k (b :: bs) = sourceEventsFrom src (k + 1) bs ++ [.memRead src k b] := by
  simp [sourceEventsFrom]

/-- A CRC unit: what it makes of the two accumulators and a source byte (R133, R143). -/
abbrev SourceUnit := Byte × Half → Byte → Byte × Half

/-- The unit of CRC7 (R133). -/
def unit7 : SourceUnit := fun acc b => (acc7Step acc.1 b, acc.2)

/-- The unit of CRC16 (R143). -/
def unit16 : SourceUnit := fun acc b => (acc.1, acc16Step acc.2 b)

/-- `s` after the source bytes `bytes` were read and given to the unit. -/
def State.absorbed (s : State) (unit : SourceUnit) (bytes : List Byte) : State :=
  { s with
    acc7 := (bytes.foldl unit (s.acc7, s.acc16)).1, acc16 := (bytes.foldl unit (s.acc7, s.acc16)).2,
    k := s.k + BitVec.ofNat 16 bytes.length,
    history := sourceEventsFrom s.ops.src s.k.toNat bytes ++ s.history }

/-- A step of a CRC operation: one source byte, and after the last the end `finish` (R137, R147). -/
def State.sourceStep (s : State) (unit : SourceUnit) (finish : State → State) : State :=
  let s' := s.absorbed unit [s.srcByte s.k.toNat]
  if s'.k = s.ops.len then finish s' else s'

theorem stepK7_eq (s : State) : stepK7 s = s.sourceStep unit7 finishCrc7 := rfl

theorem stepK16_eq (s : State) : stepK16 s = s.sourceStep unit16 finishCrc16 := rfl

theorem absorbed_absorbed (s : State) (unit : SourceUnit) (b : Byte) (bs : List Byte)
    (room : s.k.toNat + 1 < 2 ^ 16) :
    (s.absorbed unit [b]).absorbed unit bs = s.absorbed unit (b :: bs) := by
  have next : (s.k + BitVec.ofNat 16 [b].length).toNat = s.k.toNat + 1 := by
    simp [BitVec.toNat_add]; omega
  have events : sourceEventsFrom s.ops.src (s.k.toNat + 1) bs ++
      (sourceEventsFrom s.ops.src s.k.toNat [b] ++ s.history) =
      sourceEventsFrom s.ops.src s.k.toNat (b :: bs) ++ s.history := by
    rw [sourceEventsFrom_cons _ _ _ bs, List.append_assoc]
    rfl
  have index : s.k + BitVec.ofNat 16 [b].length + BitVec.ofNat 16 bs.length =
      s.k + BitVec.ofNat 16 (b :: bs).length := by
    rw [BitVec.add_assoc, ← BitVec.ofNat_add, List.length_cons, Nat.add_comm]
    rfl
  simp only [State.absorbed, next, events, index]
  rfl

/-- A CRC operation reads the rest of its source bytes and ends. -/
theorem run_source (unit : SourceUnit) (finish : State → State) (M : Major)
    (label : ∀ s : State, s.busy = true → s.phase = ⟨M, .none⟩ →
      step s = .next (s.sourceStep unit finish)) (n : Nat) :
    ∀ s : State, s.busy = true → s.phase = ⟨M, .none⟩ → s.k.toNat + (n + 1) = s.ops.len.toNat →
      run (n + 1) s = .next (finish (s.absorbed unit
        ((List.range' s.k.toNat (n + 1)).map s.srcByte))) := by
  induction n with
  | zero =>
    intro s hb phase rest
    have last : (s.absorbed unit [s.srcByte s.k.toNat]).k = s.ops.len := by
      simp only [State.absorbed, List.length_singleton]
      bv_omega
    rw [run_one, label s hb phase, State.sourceStep]
    rw [if_pos last]
    rfl
  | succ n ih =>
    intro s hb phase rest
    have bound := s.ops.len.isLt
    have first := label s hb phase
    have rest' := ih (s.absorbed unit [s.srcByte s.k.toNat]) hb phase
    have next : (s.absorbed unit [s.srcByte s.k.toNat]).k.toNat = s.k.toNat + 1 := by
      simp [State.absorbed]; omega
    have more : (s.absorbed unit [s.srcByte s.k.toNat]).k ≠ s.ops.len := by
      intro last
      rw [last] at next
      omega
    rw [State.sourceStep, if_neg more] at first
    rw [next, absorbed_absorbed _ _ _ _ (by omega)] at rest'
    rw [run_succ _ _ _ first]
    exact rest' (by simp only [State.absorbed]; omega)

theorem run_k7 (s : State) (n : Nat) (hb : s.busy = true) (phase : s.phase = ⟨.k7, .none⟩)
    (rest : s.k.toNat + (n + 1) = s.ops.len.toNat) :
    run (n + 1) s = .next (finishCrc7 (s.absorbed unit7
      ((List.range' s.k.toNat (n + 1)).map s.srcByte))) := by
  refine run_source unit7 finishCrc7 .k7 (fun s hb phase => ?_) n s hb phase rest
  rw [step_plain s hb (by rw [phase]) (by rw [phase]; decide), advancePlain, phase, stepK7_eq]

theorem run_k16 (s : State) (n : Nat) (hb : s.busy = true) (phase : s.phase = ⟨.k16, .none⟩)
    (rest : s.k.toNat + (n + 1) = s.ops.len.toNat) :
    run (n + 1) s = .next (finishCrc16 (s.absorbed unit16
      ((List.range' s.k.toNat (n + 1)).map s.srcByte))) := by
  refine run_source unit16 finishCrc16 .k16 (fun s hb phase => ?_) n s hb phase rest
  rw [step_plain s hb (by rw [phase]) (by rw [phase]; decide), advancePlain, phase, stepK16_eq]

theorem foldl_unit7 (bytes : List Byte) (a : Byte) (c : Half) :
    bytes.foldl unit7 (a, c) = (bytes.foldl acc7Step a, c) := by
  induction bytes generalizing a with
  | nil => rfl
  | cons b bs ih => exact ih _

theorem foldl_unit16 (bytes : List Byte) (a : Byte) (c : Half) :
    bytes.foldl unit16 (a, c) = (a, bytes.foldl acc16Step c) := by
  induction bytes generalizing c with
  | nil => rfl
  | cons b bs ih => exact ih _

/-- CRC7 on a block at rest: answered at once without source bytes, else the bytes are read next (R137). -/
theorem exec_crc7_rest {s : State} {src : Handle} {len resIn : Half} (hb : s.busy = false) :
    ∃ o : Request, o.src = src ∧ o.len = len ∧ exec (.crc7 src len resIn) s = .next (
      if len = 0 then
        finishCrc7 { s with
          busy := true, ops := o, freeCount := s.freeCount + 1, acc7 := acc7Init (resIn.setWidth 7),
          history := .request (.crc7 src len resIn) :: s.history }
      else { s with
        busy := true, ops := o, freeCount := s.freeCount + 1, acc7 := acc7Init (resIn.setWidth 7), k := 0,
        phase := ⟨.k7, .none⟩, history := .request (.crc7 src len resIn) :: s.history }) := by
  refine ⟨{ Config.unspecifiedOperands s.freeCount with op := 5, src := src, len := len, resIn := resIn },
    rfl, rfl, ?_⟩
  rw [exec, execCrc7, accept_rest _ _ _ _ hb]
  rfl

/-- CRC16 on a block at rest (R147). -/
theorem exec_crc16_rest {s : State} {src : Handle} {len resIn : Half} (hb : s.busy = false) :
    ∃ o : Request, o.src = src ∧ o.len = len ∧ exec (.crc16 src len resIn) s = .next (
      if len = 0 then
        finishCrc16 { s with
          busy := true, ops := o, freeCount := s.freeCount + 1, acc16 := resIn,
          history := .request (.crc16 src len resIn) :: s.history }
      else { s with
        busy := true, ops := o, freeCount := s.freeCount + 1, acc16 := resIn, k := 0,
        phase := ⟨.k16, .none⟩, history := .request (.crc16 src len resIn) :: s.history }) := by
  refine ⟨{ Config.unspecifiedOperands s.freeCount with op := 6, src := src, len := len, resIn := resIn },
    rfl, rfl, ?_⟩
  rw [exec, execCrc16, accept_rest _ _ _ _ hb]
  rfl

/-- The source bytes as the loop of R137 reads them. -/
theorem sourceBytes_eq (m : Memory) (src : Handle) (n : Nat) :
    sourceBytes m src n = (List.range' 0 n).map (fun k => m.read (address src k)) := by
  rw [sourceBytes, List.range_eq_range']

theorem finishCrc7_crcOut {v : State} (bytes : List Byte) (r : BitVec 7)
    (acc7 : v.acc7 = bytes.foldl acc7Step (acc7Init r)) :
    (finishCrc7 v).crcOut = (crc7 bytes r).setWidth 16 := by
  rw [finishCrc7, State.respond_crcOut, acc7, foldl_acc7Step, acc7Result_acc7Init]

theorem finishCrc16_crcOut {v : State} (bytes : List Byte) (r : Half)
    (acc16 : v.acc16 = bytes.foldl acc16Step r) : (finishCrc16 v).crcOut = crc16 bytes r := by
  rw [finishCrc16, State.respond_crcOut, acc16, foldl_acc16Step]

/-- Settles O44: without source bytes the answer is the acceptance's, else the loop's. -/
theorem crc7Operation : Obligations.Crc7Operation := by
  intro s src len resIn hb
  obtain ⟨o, rfl, rfl, accepted⟩ := exec_crc7_rest (src := src) (len := len) (resIn := resIn) hb
  dsimp only
  cases hn : o.len.toNat with
  | zero =>
    rw [if_pos (BitVec.eq_of_toNat_eq hn)] at accepted
    exact ⟨_, _, accepted, rfl, ⟨rfl, rfl, rfl, rfl⟩, finishCrc7_crcOut [] _ rfl, ⟨rfl, rfl, rfl, rfl⟩,
      rfl, rfl, rfl, rfl, rfl, rfl, rfl, rfl⟩
  | succ n =>
    rw [if_neg (by rintro h; simp [h] at hn)] at accepted
    rw [sourceBytes_eq]
    exact ⟨_, finishCrc7 (State.absorbed _ unit7 _), accepted, run_k7 _ n rfl rfl (by simp [hn]),
      ⟨rfl, rfl, rfl, rfl⟩, finishCrc7_crcOut _ _ (congrArg Prod.fst (foldl_unit7 _ _ _)), ⟨rfl, rfl, rfl, rfl⟩,
      rfl, rfl, rfl, rfl, rfl, rfl, rfl, rfl⟩

/-- Settles O45: as O44, with the CRC-16 unit. -/
theorem crc16Operation : Obligations.Crc16Operation := by
  intro s src len resIn hb
  obtain ⟨o, rfl, rfl, accepted⟩ := exec_crc16_rest (src := src) (len := len) (resIn := resIn) hb
  dsimp only
  cases hn : o.len.toNat with
  | zero =>
    rw [if_pos (BitVec.eq_of_toNat_eq hn)] at accepted
    exact ⟨_, _, accepted, rfl, ⟨rfl, rfl, rfl, rfl⟩, finishCrc16_crcOut [] _ rfl, ⟨rfl, rfl, rfl, rfl⟩,
      rfl, rfl, rfl, rfl, rfl, rfl, rfl, rfl⟩
  | succ n =>
    rw [if_neg (by rintro h; simp [h] at hn)] at accepted
    rw [sourceBytes_eq]
    exact ⟨_, finishCrc16 (State.absorbed _ unit16 _), accepted, run_k16 _ n rfl rfl (by simp [hn]),
      ⟨rfl, rfl, rfl, rfl⟩, finishCrc16_crcOut _ _ (congrArg Prod.snd (foldl_unit16 _ _ _)), ⟨rfl, rfl, rfl, rfl⟩,
      rfl, rfl, rfl, rfl, rfl, rfl, rfl, rfl⟩

end Sys2Proof.Machine

namespace Sys2Proof.Machine

/-! ### A command, from its frame to the end of its R1 poll -/

/-- While the card's script lasts, `RxBytes` consumes its bytes (R17, R51). -/
theorem received_script {s : State} {bs rest : List Byte} (card : s.card = bs ++ rest) :
    s.received bs.length = { s with
      card := rest, cs := .asserted, mosiHold := .released, rxStage := .hold,
      history := readEvents bs ++ s.history } := by
  rw [State.received, incoming_script s bs rest card, card, drawBytes_script]

theorem nextByte_script {s : State} {b : Byte} {rest : List Byte} (card : s.card = b :: rest) :
    s.nextByte = b := by
  rw [State.nextByte, incoming_one s b rest card]
  rfl

theorem polled_script {s : State} {b : Byte} {rest : List Byte} (card : s.card = b :: rest) :
    s.polled = { s with
      card := rest, r1 := b, attempt := s.attempt + 1, cs := .asserted, mosiHold := .released,
      rxStage := .hold, history := readEvents [b] ++ s.history } := by
  have received : s.received 1 = _ := received_script (bs := [b]) card
  rw [State.polled, received, nextByte_script card]

theorem pollEvents_cons (b : Byte) (bs : List Byte) :
    pollEvents (b :: bs) = pollEvents bs ++ readEvents [b] := by
  simp [pollEvents]

/-- The R1 poll against a card that sends `pre`, bytes with bit 7 set, and then the byte `r` that ends it
(R162, R163). -/
theorem run_wholePoll (c : BitVec 6 × Word × Option Nat) (r : Byte) (rest : List Byte) (pre : List Byte) :
    ∀ s : State, s.busy = true → s.phase.minor = .t2 → s.rxStage = .hold → s.command = some c →
      s.card = pre ++ r :: rest → (∀ b ∈ pre, b.getLsbD 7 = true) → s.attempt.toNat + pre.length < 8 →
      (r.getLsbD 7 = false ∨ s.attempt.toNat + pre.length = 7) →
      ∃ attempt, run (3 * pre.length + 3) s = .next (afterPoll c.1 c.2.2 { s with
        card := rest, r1 := r, attempt := attempt, cs := .asserted, mosiHold := .released,
        rxStage := .hold, history := pollEvents (pre ++ [r]) ++ s.history }) := by
  induction pre with
  | nil =>
    intro s hb hm stage hc card _ few last
    have poll := run_poll hb hm stage hc
    have ends : pollEnds r (s.attempt + 1) = true := by
      rw [← Bool.not_eq_false, pollEnds_eq_false_iff]
      rintro ⟨high, more⟩
      rcases last with low | seventh
      · rw [low] at high
        cases high
      · rw [List.length_nil] at seventh
        exact more (by bv_omega)
    rw [nextByte_script card, if_pos ends, polled_script card] at poll
    exact ⟨_, poll⟩
  | cons b pre ih =>
    intro s hb hm stage hc card high few last
    rw [List.length_cons] at few last
    have poll := run_poll hb hm stage hc
    have goesOn : pollEnds b (s.attempt + 1) = false :=
      (pollEnds_eq_false_iff _ _).mpr ⟨high b List.mem_cons_self, by bv_omega⟩
    have polled := polled_script card
    have attempt : s.polled.attempt.toNat = s.attempt.toNat + 1 := by
      rw [polled]
      bv_omega
    rw [nextByte_script card, goesOn, if_neg (by decide)] at poll
    obtain ⟨final, later⟩ := ih s.polled hb hm rfl hc (by rw [polled]; rfl)
      (fun x hx => high x (List.mem_cons_of_mem b hx)) (by omega)
      (last.imp_right fun _ => by omega)
    refine ⟨final, ?_⟩
    rw [List.length_cons, show 3 * (pre.length + 1) + 3 = 3 + (3 * pre.length + 3) by omega,
      run_add _ _ _ _ poll, later, polled, List.cons_append, pollEvents_cons, List.append_assoc]

/-- A command from its label `T1` to the end of its R1 poll. -/
theorem run_command {s : State} {idx : BitVec 6} {arg : Word} {size : Option Nat} {r : Byte}
    {pre rest : List Byte} (hb : s.busy = true) (hm : s.phase.minor = .t1) (stage : s.rxStage = .hold)
    (hc : s.command = some (idx, arg, size)) (card : s.card = pre ++ r :: rest)
    (high : ∀ b ∈ pre, b.getLsbD 7 = true) (few : pre.length < 8)
    (last : r.getLsbD 7 = false ∨ pre.length = 7) :
    ∃ attempt, run (3 * pre.length + 4) s = .next (afterPoll idx size { s with
      card := rest, r1 := r, attempt := attempt, phase := ⟨s.phase.major, .t2⟩, cs := .asserted,
      mosiHold := .released, rxStage := .hold,
      history := pollEvents (pre ++ [r]) ++ .writeContinue (frame idx arg) :: s.history }) := by
  obtain ⟨attempt, poll⟩ := run_wholePoll (idx, arg, size) r rest pre (s.beginTransaction idx arg) hb rfl
    stage hc card high (by rw [State.beginTransaction_attempt]; simpa using few)
    (by rw [State.beginTransaction_attempt]; simpa using last)
  exact ⟨attempt, (run_succ _ _ _ (step_frame s idx arg size hb hm hc)).trans poll⟩

/-- The additional bytes against a card that sends them (R33, R164). -/
theorem run_additional_script {s : State} {idx : BitVec 6} {arg : Word} {n : Nat} {data rest : List Byte}
    (hb : s.busy = true) (hm : s.phase.minor = .t4) (stage : s.rxStage = .hold)
    (hc : s.command = some (idx, arg, some n)) (card : s.card = data ++ rest)
    (length : data.length = n - 1) :
    run 3 s = .next { s with
      card := rest, resp := storeFrom s.resp 0 data, phase := ⟨s.phase.major, .t9⟩, cs := .asserted,
      mosiHold := .released, rxStage := .hold, history := readEvents data ++ s.history } := by
  rw [run_additional hb hm stage hc, ← length, received_script card, incoming_script s data rest card]

/-! ### CMDR, from request to answer -/

/-- The end of CMDR whose token was not missing (R169). -/
theorem step_x2_closing {s : State} (hb : s.busy = true) (phase : s.phase = ⟨.x2, .t9⟩)
    (flag : s.tokenMissing = false) :
    step s = .next (s.ended (if s.r1.getLsbD 7 then .errNoResponse else .ok) s.r1) := by
  rw [step_closing s hb (by rw [phase]), afterTransaction, State.toggle_phase, phase]
  dsimp only
  rw [afterX2, State.toggle_tokenMissing, flag, if_neg (by decide), State.toggle_r1, r1Busy]
  by_cases missing : s.r1.getLsbD 7 = true
  · rw [if_pos missing, if_pos missing]
    rfl
  · rw [if_neg missing, if_neg missing]
    rfl

/-- Without a token search CMDR goes on to the additional bytes, or ends (R164). -/
theorem afterPoll_x2 {s : State} {idx : BitVec 6} {n : Nat} (major : s.phase.major = .x2)
    (plain : idx ≠ 9 ∧ idx ≠ 10 ∨ n ≤ 1) : afterPoll idx (some n) s =
      { s with tokenMissing := false, phase := ⟨.x2, if 1 < n then .t4 else .t9⟩ } := by
  unfold afterPoll
  simp only [major]
  by_cases more : 1 < n
  · have wrapped : tokenWrapped idx = false := by
      rw [tokenWrapped, Bool.or_eq_false_iff, beq_eq_false_iff_ne, beq_eq_false_iff_ne]
      exact plain.resolve_right (by omega)
    rw [if_pos more, if_pos more, wrapped]
    rfl
  · rw [if_neg more, if_neg more]
    rfl

/-- CMDR whose response is not token-wrapped, after its R1 poll: the additional bytes, if any, and the answer
(R164, R169). -/
theorem run_x2_afterPoll {s : State} {idx : BitVec 6} {arg : Word} {n : Nat} {data rest : List Byte}
    (hb : s.busy = true) (major : s.phase.major = .x2)
    (released : s.mosiHold = .released ∧ s.rxStage = .hold)
    (hc : s.command = some (idx, arg, some n)) (plain : idx ≠ 9 ∧ idx ≠ 10 ∨ n ≤ 1)
    (card : s.card = data ++ rest) (length : data.length = n - 1) :
    run (1 + if 1 < n then 3 else 0) (afterPoll idx (some n) s) =
      .next ({ s with
        tokenMissing := false, resp := storeFrom s.resp 0 data, card := rest, mosiHold := .released,
        rxStage := .hold, history := (if 1 < n then readEvents data else []) ++ s.history }.ended
          (if s.r1.getLsbD 7 then .errNoResponse else .ok) s.r1) := by
  obtain ⟨mosi, stage⟩ := released
  rw [afterPoll_x2 major plain]
  rw [State.command, major] at hc
  by_cases more : 1 < n
  · rw [if_pos more, if_pos more, if_pos more, Nat.add_comm, run_add _ _ _ _
      (run_additional_script (s := { s with tokenMissing := false, phase := ⟨.x2, .t4⟩ }) hb rfl stage hc
        card length), run_one]
    exact step_x2_closing hb rfl rfl
  · have empty : data = [] := List.eq_nil_of_length_eq_zero (by omega)
    subst empty
    rw [if_neg more, if_neg more, if_neg more, run_one, ← mosi, ← stage, ← show s.card = rest from card]
    exact step_x2_closing hb rfl rfl

/-- Settles O41: the frame and the poll, then the additional bytes of a size above 1, then the answer. -/
theorem cmdrOperation : Obligations.CmdrOperation := by
  intro s idx arg size pre data rest r hb stage card high few last legal length plain
  obtain ⟨o, -, rfl, rfl, rfl, accepted⟩ := cmdrRequest s idx arg size hb
  rw [if_pos legal] at accepted
  obtain ⟨attempt, poll⟩ := run_command (idx := o.idx) (arg := o.arg) (size := some o.size.toNat)
    (s := { s with
        busy := true, ops := o, freeCount := s.freeCount + 1,
        tokenMissing := false, phase := { major := .x2, minor := .t1 },
        history := .request (.cmdr o.idx o.arg o.size) :: s.history }) rfl rfl stage rfl card high few last
  have ends := (run_add _ _ _ _ poll).trans
    (run_x2_afterPoll rfl rfl ⟨rfl, rfl⟩ rfl plain rfl length)
  rw [← Nat.add_assoc] at ends
  refine ⟨_, _, accepted, ends, ⟨rfl, rfl, rfl, rfl⟩, ⟨rfl, rfl, rfl⟩, rfl,
    fun i hi => storeFrom_zero_get _ _ i hi, rfl, ⟨rfl, rfl, rfl, rfl⟩, rfl, rfl, ?_⟩
  simp only [List.append_assoc, List.cons_append, List.nil_append]
  rfl

end Sys2Proof.Machine

namespace Sys2Proof.Machine

/-! ### Command frames, byte by byte and field by field -/

/-- The six bytes of a frame, byte 0 written as the row of R100 writes it (R65, R95, R96). -/
theorem frame_bytes (idx : BitVec 6) (arg : Word) {first : Byte} (index : frameFirst idx = first) :
    frame idx arg = first :: bytes32 arg ++ [frameLast (crc7 (first :: bytes32 arg) 0)] := by
  subst index
  rfl

/-- Settles O17: every frame instruction is `BeginTransaction` of its row (R161). The frames of the rows
without a free field are computed. -/
theorem framesSent : Obligations.FramesSent := by
  intro s arg idx crc
  have sends {i : Instr} {bytes : List Byte} (idx : BitVec 6) (arg : Word)
      (meaning : exec i s = .next (s.sent (frame idx arg))) (row : frame idx arg = bytes) :
      exec i s = .next (s.sent bytes) := row ▸ meaning
  exact ⟨sends 0 0 rfl (by decide +kernel), sends 8 Config.cmd8Arg rfl (by decide +kernel),
    sends 9 0 rfl (by decide +kernel), sends 10 0 rfl (by decide +kernel),
    sends 12 0 rfl (by decide +kernel), sends 17 arg rfl (frame_bytes 17 arg rfl),
    sends 18 arg rfl (frame_bytes 18 arg rfl), sends 55 0 rfl (by decide +kernel),
    sends 41 Config.acmd41Arg rfl (by decide +kernel), sends 58 0 rfl (by decide +kernel),
    sends idx arg rfl (frame_bytes idx arg rfl)⟩

/-- The start bit and the transmission bit, in byte 0 (R95). -/
theorem frameFirst_topBits (idx : BitVec 6) :
    (frameFirst idx).getLsbD 7 = false ∧ (frameFirst idx).getLsbD 6 = true := by
  revert idx; decide

section
variable (first last : Byte) (arg : Word)

/-- Six bytes as one 48-bit word, bytes 1 to 4 taken together (R95). -/
theorem frameWord_eq (a0 a1 a2 a3 : Byte) :
    (first ++ a0 ++ a1 ++ a2 ++ a3 ++ last : BitVec 48) =
      (first ++ be32 a0 a1 a2 a3 ++ last : BitVec (8 + 32 + 8)) := by
  unfold be32
  ext i hi
  grind

theorem frameWord_getLsbD_first {i : Nat} (h : 40 ≤ i) :
    (first ++ arg ++ last : BitVec (8 + 32 + 8)).getLsbD i = first.getLsbD (i - 40) := by
  rw [BitVec.getLsbD_append, BitVec.getLsbD_append, if_neg (by omega), if_neg (by omega), Nat.sub_sub]

theorem frameWord_getLsbD_last {i : Nat} (h : i < 8) :
    (first ++ arg ++ last : BitVec (8 + 32 + 8)).getLsbD i = last.getLsbD i := by
  rw [BitVec.getLsbD_append, if_pos h]

theorem frameWord_idx :
    (first ++ arg ++ last : BitVec (8 + 32 + 8)).extractLsb' 40 6 = first.setWidth 6 := by
  rw [BitVec.extractLsb'_append_eq_of_le (by decide), BitVec.extractLsb'_append_eq_of_le (by decide)]
  rfl

theorem frameWord_arg : (first ++ arg ++ last : BitVec (8 + 32 + 8)).extractLsb' 8 32 = arg := by
  rw [BitVec.extractLsb'_append_eq_of_le (by decide)]
  exact BitVec.extractLsb'_append_eq_right

theorem frameWord_crc :
    (first ++ arg ++ last : BitVec (8 + 32 + 8)).extractLsb' 1 7 = last.extractLsb' 1 7 :=
  BitVec.extractLsb'_append_eq_of_add_le (by decide)

end

/-- Settles O5: the word is byte 0, the argument and byte 5, and each field lies in one of the three. -/
theorem frameFieldsOnTheWire : Obligations.FrameFieldsOnTheWire := by
  intro idx arg b0 b1 b2 b3 b4 b5 bytes
  rw [frame_bytes idx arg rfl] at bytes
  simp only [bytes32, List.cons_append, List.nil_append, List.cons.injEq, and_true] at bytes
  obtain ⟨rfl, rfl, rfl, rfl, rfl, rfl⟩ := bytes
  obtain ⟨start, transmission⟩ := frameFirst_topBits idx
  dsimp only
  rw [frameWord_eq, be32_bytes]
  exact ⟨(frameWord_getLsbD_first _ _ _ (by decide)).trans start,
    (frameWord_getLsbD_first _ _ _ (by decide)).trans transmission,
    (frameWord_idx _ _ _).trans (frameFirst_idx idx), frameWord_arg _ _ _,
    (frameWord_crc _ _ _).trans (frameLast_crc _),
    (frameWord_getLsbD_last _ _ _ (by decide)).trans (frameLast_stop _)⟩

end Sys2Proof.Machine

namespace Sys2Proof.Machine

/-! ### Who writes host memory -/

/-- The step from `s` to `t` leaves host memory, or is the `MemWrite` of `B6` (R62, R251). -/
def State.memoryWritten (s t : State) : Prop :=
  t.mem = s.mem ∨ s.busy = true ∧ s.phase = ⟨.b6, .none⟩ ∧
    t.mem = s.mem.write (address s.ops.buf s.off) s.pay[s.j.toNat]

theorem mem_of_busy {s t : State} (hb : s.busy = true) (h : BusyCase s t) : s.memoryWritten t := by
  cases h with
  | payloadByte phase => exact .inr ⟨hb, phase, rfl⟩
  | closing minor goes => cases goes <;> exact .inl rfl
  | _ => exact .inl rfl

theorem mem_of_request {s t : State} {i : Instr} (h : RequestCase s i t) : t.mem = s.mem := by
  cases h <;> rfl

/-- Of all steps only that of `B6` writes host memory, and it writes one byte. -/
theorem mem_of_step {s t : State} (h : step s = .next t) : s.memoryWritten t := by
  cases hb : s.busy with
  | true => exact mem_of_busy hb (busyCase_of_step hb h)
  | false =>
    rcases restCase_of_step hb h with rfl | ⟨r, rs, -, request⟩
    · exact .inl rfl
    · exact .inl (mem_of_request (s := { s with requests := rs }) request)

/-- Settles O52: a write keeps the canonical form. -/
theorem stepKeepsMemoryForm : Obligations.StepKeepsMemoryForm := by
  intro s t wf h
  rcases mem_of_step h with same | ⟨-, -, written⟩
  · rw [same]; exact wf
  · rw [written]; exact Memory.write_wf _ _ _ wf

/-- Settles O59: a write leaves every other address. -/
theorem memoryWriters : Obligations.MemoryWriters := by
  intro s t wf h
  rcases mem_of_step h with same | ⟨hb, phase, written⟩
  · exact .inl same
  · refine .inr ⟨hb, phase, fun a other => ?_⟩
    rw [written]
    exact Memory.read_write_other _ _ _ _ other wf

/-! ### The labels of READ that receive and deliver a payload -/

section
variable {s : State} (hb : s.busy = true)
include hb

theorem step_b5 (phase : s.phase = ⟨.b5, .none⟩) : step s = .next (stepB5 s) := by
  rw [step_plain s hb (by rw [phase]) (by simp [phase]), advancePlain, phase]

theorem step_b6 (phase : s.phase = ⟨.b6, .none⟩) : step s = .next (stepB6 s) := by
  rw [step_plain s hb (by rw [phase]) (by simp [phase]), advancePlain, phase]

theorem step_b7 (phase : s.phase = ⟨.b7, .none⟩) : step s = .next (stepB7 s) := by
  rw [step_plain s hb (by rw [phase]) (by simp [phase]), advancePlain, phase]

end

/-- Settles O38: the write by the rules of host memory, the CRC step by that of its table. -/
theorem payloadByte : Obligations.PayloadByte := by
  intro s hb phase wf
  refine ⟨s.mem.write (address s.ops.buf s.off) s.pay[s.j.toNat], ?_, Memory.read_write_same _ _ _ wf,
    fun a other => Memory.read_write_other _ _ _ _ other wf, Memory.write_wf _ _ _ wf⟩
  rw [step_b6 hb phase, stepB6, acc16Step_eq, crc16_cons, crc16_nil]
  dsimp only
  split_ifs
  · rfl
  · rw [← phase]
    rfl

/-- `B5` from its first event to its last. -/
theorem run_b5 {s : State} (hb : s.busy = true) (phase : s.phase = ⟨.b5, .none⟩) (stage : s.rxStage = .hold) :
    run 3 s = .next { s.received 512 with
      pay := storeFrom s.pay 0 (s.incoming 512), acc16 := 0, j := 0, phase := ⟨.b6, .none⟩ } := by
  have received (n : Nat) : (s.latched n fun bs s => { s with pay := storeFrom s.pay 0 bs }).readDone =
      { s.received n with pay := storeFrom s.pay 0 (s.incoming n) } := rfl
  rw [run_rxBytes_plain (n := Config.blockLen)
    (store := fun bs (s : State) => { s with pay := storeFrom s.pay 0 bs })
    (after := fun (s : State) => ({ s with acc16 := 0, j := 0 } : State).goto .b6 .none) stage
    (fun _ _ => ⟨rfl, rfl, rfl⟩)
    (fun _ busy same _ => step_b5 (busy.trans hb) (same.trans phase)), received]
  rfl

/-- `B7` from its first event to its last. -/
theorem run_b7 {s : State} (hb : s.busy = true) (phase : s.phase = ⟨.b7, .none⟩) (stage : s.rxStage = .hold) :
    run 3 s = .next (afterB7 { s.received 2 with
      rxCrc := be16 ((s.incoming 2).getD 0 0) ((s.incoming 2).getD 1 0) }) :=
  run_rxBytes_plain (n := 2) (store := fun bs s => { s with rxCrc := be16 (bs.getD 0 0) (bs.getD 1 0) })
    (after := afterB7) stage (fun _ _ => ⟨rfl, rfl, rfl⟩)
    (fun _ busy same _ => step_b7 (busy.trans hb) (same.trans phase))

/-- The exits of `B7`, with the comparison of the CRCs written as in R252. -/
theorem afterB7_eq (s : State) : afterB7 s =
    if s.acc16 ≠ s.rxCrc then { s with phase := ⟨.b9, .t9⟩ }
    else if s.blkI.toNat + 1 < s.ops.count.toNat then
      { s with blkI := s.blkI + 1, phase := ⟨.b2, .none⟩ }
    else if 1 < s.ops.count.toNat then { s with phase := ⟨.b8, .t1⟩ }
    else { s with phase := ⟨.b9, .t9⟩ } := by
  simp only [afterB7, payloadCrcOk, Bool.not_eq_true', beq_eq_false_iff_ne, State.goto]

/-- Settles O37: the read of `B5` fills `pay`, and that of `B7` branches on the CRC and the counts. -/
theorem readPayloadAndCrc : Obligations.ReadPayloadAndCrc := by
  intro s hb stage
  refine ⟨fun phase => ⟨_, storeFrom_full _ _ (incoming_length s 512), run_b5 hb phase stage⟩, fun phase => ?_⟩
  rw [run_b7 hb phase stage]
  exact congrArg _ (afterB7_eq _)

end Sys2Proof.Machine

namespace Sys2Proof.Machine

/-! ### The block being received -/

/-- The first `n` bytes of the payload are in `BUF` at their offsets, and `acc16` is their CRC-16 (R251). -/
def State.delivered (s : State) (n : Nat) : Prop :=
  s.acc16 = crc16 (s.pay.toList.take n) 0 ∧ ∀ i (h : i < 512), i < n →
    s.mem.read (address s.ops.buf (Config.blockLen * s.blkI.toNat + i)) = s.pay[i]

theorem delivered_zero {s : State} (clear : s.acc16 = 0) : s.delivered 0 :=
  ⟨clear, nofun⟩

/-- The step of `B6` delivers the next byte. -/
theorem delivered_succ {s t : State} {n : Nat} (wf : s.mem.wf = true) (before : s.delivered s.j.toNat)
    (count : n = s.j.toNat + 1)
    (acc16 : t.acc16 = acc16Step s.acc16 s.pay[s.j.toNat])
    (mem : t.mem = s.mem.write (address s.ops.buf s.off) s.pay[s.j.toNat])
    (same : t.ops = s.ops ∧ t.blkI = s.blkI ∧ t.pay = s.pay) : t.delivered n := by
  subst count
  obtain ⟨crc, written⟩ := before
  obtain ⟨ops, blkI, pay⟩ := same
  refine ⟨?_, fun i hi up => ?_⟩
  · rw [acc16, pay, acc16Step_eq, crc, List.take_succ_eq_append_getElem (by simp; omega), crc16_append]
    simp
  · rw [mem, ops, blkI, pay]
    by_cases last : i = s.j.toNat
    · subst last
      exact Memory.read_write_same _ _ _ wf
    · rw [Memory.read_write_other _ _ _ _ _ wf]
      · exact written i hi (by omega)
      · simp only [address, State.off]
        omega

theorem BlockInv.delivered_b6 {s : State} (inv : BlockInv s) (hb : s.busy = true)
    (major : s.phase.major = .b6) : s.delivered s.j.toNat :=
  ⟨inv.running hb major, inv.written hb major⟩

theorem BlockInv.delivered_b7 {s : State} (inv : BlockInv s) (hb : s.busy = true)
    (major : s.phase.major = .b7) : s.delivered 512 :=
  ⟨by rw [inv.complete hb major, List.take_of_length_le (by simp)], fun i hi _ => inv.delivered hb major i hi⟩

/-- The block is at rest or at no label that the block invariant speaks of. -/
def State.offPayload (t : State) : Prop :=
  t.busy = false ∨ t.phase.major ≠ .b6 ∧ t.phase.major ≠ .b7

theorem BlockInv.outside {t : State} (h : t.offPayload) : BlockInv t := by
  rcases h with rest | ⟨b6, b7⟩
  · have idle : t.busy ≠ true := by rw [rest]; nofun
    exact ⟨fun busy => absurd busy idle, fun busy => absurd busy idle, fun busy => absurd busy idle,
      fun busy => absurd busy idle⟩
  · exact ⟨fun _ major => absurd major b6, fun _ major => absurd major b6,
      fun _ major => absurd major b7, fun _ major => absurd major b7⟩

theorem BlockInv.atB6 {t : State} (major : t.phase.major = .b6) (h : t.delivered t.j.toNat) : BlockInv t :=
  ⟨fun _ _ => h.1, fun _ _ => h.2, by simp [major], by simp [major]⟩

theorem BlockInv.atB7 {t : State} (major : t.phase.major = .b7) (h : t.delivered 512) : BlockInv t :=
  ⟨by simp [major], by simp [major], fun _ _ => by rw [h.1, List.take_of_length_le (by simp)],
    fun _ _ i hi => h.2 i hi hi⟩

theorem blockInv_stepB5 {s : State} (phase : s.phase = ⟨.b5, .none⟩) : BlockInv (stepB5 s) := by
  unfold stepB5
  cases stage : s.rxStage with
  | hold =>
    rw [rxBytes_hold _ _ _ _ stage]
    exact .outside (.inr (by simp [phase]))
  | read =>
    rw [rxBytes_read _ _ _ _ stage]
    exact .outside (.inr (by simp [phase]))
  | release =>
    rw [rxBytes_release _ _ _ _ stage]
    exact .atB6 rfl (delivered_zero rfl)

theorem blockInv_stepB6 {s : State} (wf : s.mem.wf = true) (before : s.delivered s.j.toNat)
    (phase : s.phase = ⟨.b6, .none⟩) : BlockInv (stepB6 s) := by
  unfold stepB6
  dsimp only
  split_ifs with last
  · exact .atB7 rfl (delivered_succ wf before (by rw [last]; rfl) rfl rfl ⟨rfl, rfl, rfl⟩)
  · have major : s.phase.major = .b6 := by rw [phase]
    exact .atB6 major (delivered_succ wf before (by dsimp; bv_omega) rfl rfl ⟨rfl, rfl, rfl⟩)

theorem blockInv_stepB7 {s : State} (complete : s.delivered 512)
    (phase : s.phase = ⟨.b7, .none⟩) : BlockInv (stepB7 s) := by
  have major : s.phase.major = .b7 := by rw [phase]
  unfold stepB7
  cases stage : s.rxStage with
  | hold =>
    rw [rxBytes_hold _ _ _ _ stage]
    exact .atB7 major complete
  | read =>
    rw [rxBytes_read _ _ _ _ stage]
    exact .atB7 major complete
  | release =>
    rw [rxBytes_release _ _ _ _ stage, afterB7]
    split_ifs <;> exact .outside (.inr ⟨nofun, nofun⟩)

theorem offPayload_of_request {s t : State} {i : Instr} (h : RequestCase s i t) : t.offPayload := by
  cases h with
  | answered => exact .inl rfl
  | init | read | cmd | cmdr | crc7 | crc16 => exact .inr ⟨nofun, nofun⟩

/-- No transaction ends at `B6` or `B7` (R166). -/
theorem offPayload_of_closing {s t : State} (h : ClosingCase s t) : t.offPayload := by
  cases h with
  | answers => exact .inl rfl
  | calls major v2 iter ocr ccsNew edge =>
    rcases Major.nextCall_cases edge with ⟨-, a⟩ | ⟨-, a⟩ | ⟨-, a⟩ | ⟨-, a⟩ | ⟨-, a⟩ <;> subst a <;>
      exact .inr ⟨nofun, nofun⟩
  | pass | acmd41 | v1Ready | commits => exact .inr ⟨nofun, nofun⟩

/-- `B6` and `B7` are entered from `B5`, `B6` and `B7` only (R251). -/
theorem offPayload_of_busy {s t : State} (h : BusyCase s t) (b5 : s.phase.major ≠ .b5)
    (b6 : s.phase.major ≠ .b6) (b7 : s.phase.major ≠ .b7) : t.offPayload := by
  cases h with
  | closing minor goes => exact offPayload_of_closing goes
  | waitTick phase major minor goes =>
    rcases goes with ⟨rfl, -⟩ | ⟨rfl, -⟩ | ⟨rfl, -⟩ <;> exact .inr ⟨nofun, nofun⟩
  | payloadRead phase => exact absurd (by rw [phase]) b5
  | payloadByte phase => exact absurd (by rw [phase]) b6
  | source7Done | source16Done | i10 => exact .inl rfl
  | i1 | i2 | waitBegins | waitToken | waitOther | b1Failed | b1Ready | b8Done | nextBlock | stopsReading
  | endsReading => exact .inr ⟨nofun, nofun⟩
  | frame | hold | read | pollAgain | commandDone | callDone | callReads | callSearches | searchFailed
  | searchFound | additionalDone | source7 | source16 => exact .inr ⟨b6, b7⟩

/-- A major whose only minor is `NONE` determines the label (R36). -/
theorem ControlInv.plain {s : State} (inv : ControlInv s) (hb : s.busy = true) {major : Major}
    (label : s.phase.major = major) (minors : major.minors = [.none]) : s.phase = ⟨major, .none⟩ := by
  have running := (inv.running hb).2
  rw [label, minors, List.mem_singleton] at running
  exact phase_eq label running

/-- Settles O54: a block is received at `B5` to `B7`, and a step from anywhere else stays outside `B6` and
`B7`. -/
theorem stepKeepsBlock : Obligations.StepKeepsBlock := by
  intro s t wf ctl inv h
  cases hb : s.busy with
  | false =>
    rcases restCase_of_step hb h with rfl | ⟨r, rs, -, request⟩
    · exact inv
    · exact .outside (offPayload_of_request request)
  | true =>
    by_cases b5 : s.phase.major = .b5
    · have phase := ctl.plain hb b5 rfl
      cases (step_b5 hb phase).symm.trans h
      exact blockInv_stepB5 phase
    by_cases b6 : s.phase.major = .b6
    · have phase := ctl.plain hb b6 rfl
      cases (step_b6 hb phase).symm.trans h
      exact blockInv_stepB6 wf (inv.delivered_b6 hb b6) phase
    by_cases b7 : s.phase.major = .b7
    · have phase := ctl.plain hb b7 rfl
      cases (step_b7 hb phase).symm.trans h
      exact blockInv_stepB7 (inv.delivered_b7 hb b7) phase
    exact .outside (offPayload_of_busy (busyCase_of_step hb h) b5 b6 b7)

end Sys2Proof.Machine

namespace Sys2Proof

/-! ### Requests and frames as bytes, and back -/

/-- A frame instruction is laid out as its three fields (R95, R100), the rows of the table among them. -/
theorem encode_frameInstr (idx : BitVec 6) (arg : Word) (crc : BitVec 7) :
    encode (frameInstr idx arg crc) =
      Machine.frameFirst idx :: (Machine.bytes32 arg ++ [Machine.frameLast crc]) := by
  unfold frameInstr
  split_ifs with h17 h18 h0 h8 h9 h10 h12 h55 h41 h58
  · subst h17; rfl
  · subst h18; rfl
  · obtain ⟨rfl, rfl, rfl⟩ := h0; rfl
  · obtain ⟨rfl, rfl, rfl⟩ := h8; rfl
  · obtain ⟨rfl, rfl, rfl⟩ := h9; rfl
  · obtain ⟨rfl, rfl, rfl⟩ := h10; rfl
  · obtain ⟨rfl, rfl, rfl⟩ := h12; rfl
  · obtain ⟨rfl, rfl, rfl⟩ := h55; rfl
  · obtain ⟨rfl, rfl, rfl⟩ := h41; rfl
  · obtain ⟨rfl, rfl, rfl⟩ := h58; rfl
  · rfl

/-- A frame instruction is decoded from its bytes, whatever its CRC field (log 12). -/
theorem decode_encode_frameInstr (idx : BitVec 6) (arg : Word) (crc : BitVec 7) (rest : List Byte) :
    decode (encode (frameInstr idx arg crc) ++ rest) = .ok (frameInstr idx arg crc, rest) := by
  rw [encode_frameInstr, List.cons_append, List.append_assoc, List.singleton_append, decode_frame_fields]

/-- The index and argument of the rows of R100, one by one. -/
theorem ownRow_iff (idx : BitVec 6) (arg : Word) : ownRow idx arg = true ↔
    idx = 17 ∨ idx = 18 ∨
    (arg = 0 ∧ (idx = 0 ∨ idx = 9 ∨ idx = 10 ∨ idx = 12 ∨ idx = 55 ∨ idx = 58)) ∨
    (idx = 8 ∧ arg = Config.cmd8Arg) ∨ (idx = 41 ∧ arg = Config.acmd41Arg) := by
  simp [ownRow, or_assoc]

/-- The generic frame stands for every index and argument without a row (R100, R110): each other branch of
`frameInstr` asks for one. -/
theorem frameInstr_of_not_ownRow {idx : BitVec 6} {arg : Word} (crc : BitVec 7)
    (generic : ownRow idx arg = false) : frameInstr idx arg crc = .cmdn idx arg crc := by
  rw [Bool.eq_false_iff, ne_eq, ownRow_iff] at generic
  unfold frameInstr
  grind

/-- The CRC fields of the rows whose 48 bits are all fixed (R100). -/
theorem frameCrc_fixed :
    Machine.frameCrc 0 0 = 0x4A ∧ Machine.frameCrc 8 Config.cmd8Arg = 0x43 ∧
    Machine.frameCrc 9 0 = 0x57 ∧ Machine.frameCrc 10 0 = 0x0D ∧ Machine.frameCrc 12 0 = 0x30 ∧
    Machine.frameCrc 55 0 = 0x32 ∧ Machine.frameCrc 41 Config.acmd41Arg = 0x3B ∧
    Machine.frameCrc 58 0 = 0x7E := by
  decide +kernel

/-- With the CRC-7 of its first five bytes a frame instruction is well-formed (R98): one that has a row is
that row's. -/
theorem frameInstr_wellFormed (idx : BitVec 6) (arg : Word) :
    (frameInstr idx arg (Machine.frameCrc idx arg)).wellFormed = true := by
  cases row : ownRow idx arg with
  | false => simp [frameInstr_of_not_ownRow _ row, Instr.wellFormed, row]
  | true =>
    obtain ⟨crc0, crc8, crc9, crc10, crc12, crc55, crc41, crc58⟩ := frameCrc_fixed
    rcases (ownRow_iff idx arg).mp row with
      rfl | rfl | ⟨rfl, rfl | rfl | rfl | rfl | rfl | rfl⟩ | ⟨rfl, rfl⟩ | ⟨rfl, rfl⟩
    · exact beq_self_eq_true _
    · exact beq_self_eq_true _
    · rw [crc0]; rfl
    · rw [crc9]; rfl
    · rw [crc10]; rfl
    · rw [crc12]; rfl
    · rw [crc55]; rfl
    · rw [crc58]; rfl
    · rw [crc8]; rfl
    · rw [crc41]; rfl

/-- Settles O2: a request is its record, a frame its fields, the token its byte; only the generic frame needs
that it is well-formed, since it must stand for no row. -/
theorem decodeEncodeAgree : Obligations.DecodeEncodeAgree := by
  intro i rest wf
  cases i with
  | init => exact decode_request (.blank 1) rest
  | read start count buf =>
    exact decode_request { Request.blank 2 with start := start, count := count, buf := buf } rest
  | cmd idx arg => exact decode_request { Request.blank 3 with idx := idx, arg := arg } rest
  | cmdr idx arg size =>
    exact decode_request { Request.blank 4 with idx := idx, arg := arg, size := size } rest
  | crc7 src len resIn =>
    exact decode_request { Request.blank 5 with src := src, len := len, resIn := resIn } rest
  | crc16 src len resIn =>
    exact decode_request { Request.blank 6 with src := src, len := len, resIn := resIn } rest
  | reservedOp0 => exact decode_request (.blank 0) rest
  | reservedOp7 => exact decode_request (.blank 7) rest
  | cmd0 => exact decode_encode_frameInstr 0 0 0x4A rest
  | cmd8 => exact decode_encode_frameInstr 8 Config.cmd8Arg 0x43 rest
  | cmd9 => exact decode_encode_frameInstr 9 0 0x57 rest
  | cmd10 => exact decode_encode_frameInstr 10 0 0x0D rest
  | cmd12 => exact decode_encode_frameInstr 12 0 0x30 rest
  | cmd17 start crc => exact decode_encode_frameInstr 17 start crc rest
  | cmd18 start crc => exact decode_encode_frameInstr 18 start crc rest
  | cmd55 => exact decode_encode_frameInstr 55 0 0x32 rest
  | acmd41 => exact decode_encode_frameInstr 41 Config.acmd41Arg 0x3B rest
  | cmd58 => exact decode_encode_frameInstr 58 0 0x7E rest
  | cmdn idx arg crc =>
    obtain ⟨-, generic⟩ : crc = Machine.frameCrc idx arg ∧ ownRow idx arg = false := by
      simpa [Instr.wellFormed] using wf
    rw [← frameInstr_of_not_ownRow crc generic]
    exact decode_encode_frameInstr idx arg crc rest
  | dataStartToken => rfl

/-- Settles O1: each word is the encoding of its instruction. -/
theorem tableWordsDecode : Obligations.TableWordsDecode :=
  ⟨decode_encode_frameInstr 0 0 0x4A [], decode_encode_frameInstr 8 Config.cmd8Arg 0x43 [],
    decode_encode_frameInstr 10 0 0x0D [], decode_encode_frameInstr 17 0x12345678 0x2E [],
    decode_encode_frameInstr 18 2 0x62 [], decode_encode_frameInstr 41 Config.acmd41Arg 0x3B [],
    decode_encode_frameInstr 63 0xFFFFFFFF 0x0C [], decodeEncodeAgree .dataStartToken [] rfl,
    decodeEncodeAgree (.read 5 2 0x1000) [] rfl⟩

end Sys2Proof

namespace Sys2Proof.Machine

/-! ### The words that are frames -/

/-- A byte with top bits `01` is byte 0 of the frames with the index in its other bits (R96). -/
theorem frameFirst_of_topBits {b : Byte} (top : b.extractLsb' 6 2 = 1) :
    frameFirst (b.setWidth 6) = b := by
  revert b; decide

/-- A byte with the stop bit set is byte 5 of the frames with the CRC field in its other bits (R96). -/
theorem frameLast_of_stop {b : Byte} (stop : b.getLsbD 0 = true) :
    frameLast (b.extractLsb' 1 7) = b := by
  revert b; decide

theorem bytes32_be32 (b0 b1 b2 b3 : Byte) : bytes32 (be32 b0 b1 b2 b3) = [b0, b1, b2, b3] := by
  simp only [bytes32, be32, List.cons.injEq, and_true]
  refine ⟨?_, ?_, ?_, ?_⟩ <;> ext i hi <;> grind

/-- A word that is a frame is the frame of the fields it carries (R97, R98). -/
theorem eq_frame_of_isFrame {bytes : List Byte} (h : isFrame bytes = true) :
    ∃ idx arg, bytes = frame idx arg := by
  unfold isFrame at h
  split at h
  next b0 b1 b2 b3 b4 b5 =>
    simp only [Bool.and_eq_true, beq_iff_eq] at h
    obtain ⟨⟨top, stop⟩, crc⟩ := h
    refine ⟨b0.setWidth 6, be32 b1 b2 b3 b4, ?_⟩
    rw [frame, frameCrc, frameHead, frameFirst_of_topBits top, bytes32_be32, ← crc,
      frameLast_of_stop stop]
    rfl
  next => cases h

/-- Settles O4: `Frame` builds frames only, every frame is built from its fields, and both fields are read
back byte by byte. -/
theorem producibleFrames : Obligations.ProducibleFrames := by
  refine ⟨fun bytes => ⟨eq_frame_of_isFrame, ?_⟩, fun idx arg => ?_⟩
  · rintro ⟨idx, arg, rfl⟩
    exact isFrame_frame idx arg
  · exact ⟨_, _, _, _, _, _, rfl, frameFirst_idx idx, be32_bytes arg⟩

/-- Settles O3: a frame is `Frame(idx, arg)`, and the instruction of its fields is the one sought. -/
theorem encodeDecodeFrames : Obligations.EncodeDecodeFrames := by
  intro bytes h
  obtain ⟨idx, arg, rfl⟩ := eq_frame_of_isFrame h
  refine ⟨frameInstr idx arg (frameCrc idx arg), ?_, frameInstr_wellFormed idx arg,
    encode_frameInstr idx arg _⟩
  simpa using decode_frame idx arg []

end Sys2Proof.Machine

namespace Sys2Proof.Machine

/-! ### The frames of the steps -/

/-- Settles O22: the step sends the frame of its command, which `framesSent` writes out for the rows without
a free field. -/
theorem framesOfTheSteps : Obligations.FramesOfTheSteps := by
  intro s hb hm
  have sends {idx : BitVec 6} {arg : Word} (size : Option Nat) (hc : s.command = some (idx, arg, size)) :
      step s = .next (s.sent (frame idx arg)) := step_frame s idx arg size hb hm hc
  obtain ⟨cmd0, cmd8, cmd9, -, cmd12, -, -, cmd55, acmd41, cmd58, -⟩ := framesSent s 0 0 0
  refine ⟨fun major => ?_, fun major => ?_, fun major => ?_, fun major => ?_, fun major => ?_,
    fun major => ?_, fun major => ?_, fun major => ?_, fun major => ?_⟩
  · exact (sends none (by rw [State.command, major])).trans cmd0
  · exact (sends (some 5) (by rw [State.command, major])).trans cmd8
  · exact (sends (some 5) (by rcases major with major | major <;> rw [State.command, major])).trans cmd58
  · exact (sends none (by rw [State.command, major])).trans cmd55
  · exact (sends none (by rw [State.command, major])).trans acmd41
  · exact (sends (some 19) (by rcases major with major | major <;> rw [State.command, major])).trans cmd9
  · rw [sends none (by rw [State.command, major]), apply_ite (frame · s.ops.start)]
  · exact (sends none (by rw [State.command, major])).trans cmd12
  · rcases major with major | major
    · exact sends none (by rw [State.command, major])
    · exact sends (some s.ops.size.toNat) (by rw [State.command, major])

/-! ### Reserved op codes and the token -/

/-- Settles O15: the answer of a reserved op code on a block at rest (R93). -/
theorem reservedRequests : Obligations.ReservedRequests := by
  intro s hb
  have answer (i : Instr) : answerReserved i s = .next ((s.log (.request i)).respond .refused 0xFF) :=
    if_neg (by rw [hb]; decide)
  exact ⟨answer .reservedOp0, answer .reservedOp7⟩

/-- Outside a token wait the byte 0xFE is refused as a token (log 22). -/
theorem execDataStartToken_outside {s : State} (outside : s.phase.awaitsToken = false) :
    execDataStartToken s = .refused .tokenOutsideWait :=
  if_neg fun pending => by
    obtain ⟨-, waits, -⟩ := (tokenPending_iff s).mp pending
    rw [outside] at waits
    cases waits

/-- In READ's wait the token leads to the payload (R248). -/
theorem execDataStartToken_b3 {s : State} (pending : s.tokenPending = true) (major : s.phase.major = .b3) :
    execDataStartToken s = .next (s.readDone.goto .b5 .none) := by
  rw [execDataStartToken, if_pos pending]
  exact if_pos major

/-- In the wait for a register's token it leads to the additional bytes (R164). -/
theorem execDataStartToken_t3 {s : State} (pending : s.tokenPending = true) (major : s.phase.major ≠ .b3) :
    execDataStartToken s =
      .next ({ s.readDone with attempt := s.attempt + 1 }.goto s.phase.major .t4) := by
  rw [execDataStartToken, if_pos pending]
  exact if_neg major

/-- Settles O18: the two waits, and every other label. -/
theorem tokenEndsWait : Obligations.TokenEndsWait := by
  intro s
  refine ⟨fun hb stage phase => ?_, fun hb stage minor major => ?_, fun major minor => ?_⟩
  · have waits : s.phase.awaitsToken = true := by rw [phase]; rfl
    exact execDataStartToken_b3 ((tokenPending_iff s).mpr ⟨hb, waits, stage⟩) (by rw [phase])
  · have waits : s.phase.awaitsToken = true := (awaitsToken_iff _).mpr (.inr ⟨minor, major⟩)
    exact execDataStartToken_t3 ((tokenPending_iff s).mpr ⟨hb, waits, stage⟩)
      (by rcases major with h | h | h <;> rw [h] <;> decide)
  · exact execDataStartToken_outside (awaitsToken_eq_false (fun _ => major) minor)

/-! ### CMDR of a register, from request to answer -/

/-- `s` after one read of the search for a register's token (R164). -/
def State.searched (s : State) : State :=
  { s.received 1 with tok := s.nextByte, attempt := s.attempt + 1 }

theorem searched_script {s : State} {b : Byte} {rest : List Byte} (card : s.card = b :: rest) :
    s.searched = { s with
      card := rest, tok := b, attempt := s.attempt + 1, cs := .asserted, mosiHold := .released,
      rxStage := .hold, history := readEvents [b] ++ s.history } := by
  have received : s.received 1 = _ := received_script (bs := [b]) card
  rw [State.searched, received, nextByte_script card]

/-- One read of the search, `registerTokenPoll` in terms of `State.searched` (R164, R165). -/
theorem run_search {s : State} (hb : s.busy = true) (hm : s.phase.minor = .t3) (stage : s.rxStage = .hold)
    (major : s.phase.major = .x2 ∨ s.phase.major = .i8 ∨ s.phase.major = .i9) :
    run 3 s = .next (if s.nextByte = 0xFE then { s.searched with phase := ⟨s.phase.major, .t4⟩ }
      else if s.attempt + 1 = 8 then
        { s.searched with tokenMissing := true, phase := ⟨s.phase.major, .t9⟩ }
      else s.searched) :=
  registerTokenPoll s hb hm stage major

/-- The search for a register's token against a card that sends `skip`, bytes other than the token, and then
the token (R164, R165). -/
theorem run_wholeSearch (rest skip : List Byte) :
    ∀ s : State, s.busy = true → s.phase.minor = .t3 → s.rxStage = .hold →
      s.phase.major = .x2 ∨ s.phase.major = .i8 ∨ s.phase.major = .i9 →
      s.card = skip ++ 0xFE :: rest → (∀ b ∈ skip, b ≠ 0xFE) → s.attempt.toNat + skip.length < 8 →
      run (3 * skip.length + 3) s = .next { s with
        card := rest, tok := 0xFE, attempt := s.attempt + BitVec.ofNat 4 (skip.length + 1),
        phase := ⟨s.phase.major, .t4⟩, cs := .asserted, mosiHold := .released, rxStage := .hold,
        history := pollEvents (skip ++ [0xFE]) ++ s.history } := by
  induction skip with
  | nil =>
    intro s hb hm stage major card _ _
    have search := run_search hb hm stage major
    rw [nextByte_script card, if_pos rfl, searched_script card] at search
    exact search
  | cons b skip ih =>
    intro s hb hm stage major card other few
    rw [List.length_cons] at few
    have search := run_search hb hm stage major
    have searched := searched_script card
    have attempt : s.searched.attempt.toNat = s.attempt.toNat + 1 := by
      rw [searched]
      bv_omega
    have count : s.attempt + 1 + BitVec.ofNat 4 (skip.length + 1) =
        s.attempt + BitVec.ofNat 4 (skip.length + 1 + 1) := by
      bv_omega
    rw [nextByte_script card, if_neg (other b List.mem_cons_self), if_neg (by bv_omega)] at search
    have later := ih s.searched hb hm rfl major (by rw [searched]; rfl)
      (fun x hx => other x (List.mem_cons_of_mem b hx)) (by omega)
    rw [List.length_cons, show 3 * (skip.length + 1) + 3 = 3 + (3 * skip.length + 3) by omega,
      run_add _ _ _ _ search, later, searched, List.cons_append, pollEvents_cons, List.append_assoc, count]

/-- For CMD9 and CMD10 CMDR goes on to the token search (R164). -/
theorem afterPoll_x2_register {s : State} {idx : BitVec 6} {n : Nat} (major : s.phase.major = .x2)
    (register : idx = 9 ∨ idx = 10) (more : 1 < n) : afterPoll idx (some n) s =
      { s with tokenMissing := false, attempt := 0, phase := ⟨.x2, .t3⟩ } := by
  have wrapped : tokenWrapped idx = true := by
    rcases register with rfl | rfl <;> rfl
  unfold afterPoll
  simp only [major]
  rw [if_pos more, if_pos wrapped]
  rfl

/-- The additional bytes of CMDR and its answer (R164, R169). -/
theorem run_x2_additional {s : State} {idx : BitVec 6} {arg : Word} {n : Nat} {data rest : List Byte}
    (hb : s.busy = true) (phase : s.phase = ⟨.x2, .t4⟩) (stage : s.rxStage = .hold)
    (flag : s.tokenMissing = false) (hc : s.command = some (idx, arg, some n))
    (card : s.card = data ++ rest) (length : data.length = n - 1) :
    run 4 s = .next ({ s with
      card := rest, resp := storeFrom s.resp 0 data, mosiHold := .released, rxStage := .hold,
      history := readEvents data ++ s.history }.ended
        (if s.r1.getLsbD 7 then .errNoResponse else .ok) s.r1) := by
  have read := run_additional_script hb (by rw [phase]) stage hc card length
  rw [run_add 3 1 _ _ read, run_one]
  exact step_x2_closing hb (by rw [phase]) flag

/-- CMDR of a register after its R1 poll: the token search, the additional bytes and the answer (R164,
R169). -/
theorem run_x2_register {s : State} {idx : BitVec 6} {arg : Word} {n : Nat} {skip data rest : List Byte}
    (hb : s.busy = true) (major : s.phase.major = .x2) (stage : s.rxStage = .hold)
    (hc : s.command = some (idx, arg, some n)) (register : idx = 9 ∨ idx = 10) (more : 1 < n)
    (card : s.card = skip ++ 0xFE :: (data ++ rest)) (other : ∀ b ∈ skip, b ≠ 0xFE)
    (few : skip.length < 8) (length : data.length = n - 1) :
    run (3 * skip.length + 7) (afterPoll idx (some n) s) =
      .next ({ s with
        tokenMissing := false, attempt := 0 + BitVec.ofNat 4 (skip.length + 1), tok := 0xFE,
        resp := storeFrom s.resp 0 data, card := rest, mosiHold := .released, rxStage := .hold,
        history := readEvents data ++ (pollEvents (skip ++ [0xFE]) ++ s.history) }.ended
          (if s.r1.getLsbD 7 then .errNoResponse else .ok) s.r1) := by
  have search := run_wholeSearch (data ++ rest) skip
    { s with tokenMissing := false, attempt := 0, phase := ⟨.x2, .t3⟩ } hb rfl stage (.inl rfl) card other
    (by simpa using few)
  rw [State.command, major] at hc
  rw [afterPoll_x2_register major register more, show 3 * skip.length + 7 = 3 * skip.length + 3 + 4 by omega,
    run_add _ _ _ _ search]
  exact run_x2_additional hb rfl rfl rfl hc rfl length

/-- Settles O42: the frame and the poll, then the token search and the additional bytes, then the answer. -/
theorem cmdrRegisterOperation : Obligations.CmdrRegisterOperation := by
  intro s idx arg size pre skip data rest r hb stage card high few last other fewSkipped register more legal
    length
  obtain ⟨o, -, rfl, rfl, rfl, accepted⟩ := cmdrRequest s idx arg size hb
  rw [if_pos legal] at accepted
  obtain ⟨attempt, poll⟩ := run_command (idx := o.idx) (arg := o.arg) (size := some o.size.toNat)
    (s := { s with
        busy := true, ops := o, freeCount := s.freeCount + 1,
        tokenMissing := false, phase := { major := .x2, minor := .t1 },
        history := .request (.cmdr o.idx o.arg o.size) :: s.history }) rfl rfl stage rfl card high few last
  have ends := (run_add _ _ _ _ poll).trans
    (run_x2_register rfl rfl rfl rfl register more rfl other fewSkipped length)
  rw [show 3 * pre.length + 4 + (3 * skip.length + 7) = 3 * pre.length + 3 * skip.length + 11 by omega]
    at ends
  refine ⟨_, _, accepted, ends, ⟨rfl, rfl, rfl, rfl⟩, ⟨rfl, rfl, rfl⟩, rfl,
    fun i hi => storeFrom_zero_get _ _ i hi, rfl, ⟨rfl, rfl, rfl, rfl⟩, rfl, rfl, ?_⟩
  simp only [List.append_assoc, List.cons_append, List.nil_append]
  rfl

end Sys2Proof.Machine

namespace Sys2Proof.Machine

/-! ### The laws of the checksums (R132, R142) -/

/-- Adding a feedback term under a condition is linear in the value and the condition. -/
theorem feedback_xor {w : Nat} (k c d : BitVec w) (p q : Bool) :
    (if p ^^ q then (c ^^^ d) ^^^ k else c ^^^ d) =
      (if p then c ^^^ k else c) ^^^ (if q then d ^^^ k else d) := by
  cases p <;> cases q
  · rfl
  · exact BitVec.xor_assoc c d k
  · show (c ^^^ d) ^^^ k = (c ^^^ k) ^^^ d
    ac_rfl
  · show c ^^^ d = (c ^^^ k) ^^^ (d ^^^ k)
    rw [BitVec.xor_comm d k, BitVec.xor_assoc, ← BitVec.xor_assoc k, BitVec.xor_self, BitVec.zero_xor]

theorem crc7Bit_xor (c d : BitVec 7) (x y : Bool) :
    crc7Bit (c ^^^ d) (x ^^ y) = crc7Bit c x ^^^ crc7Bit d y := by
  have top : ((c ^^^ d).getLsbD 6 ^^ (x ^^ y)) = ((c.getLsbD 6 ^^ x) ^^ (d.getLsbD 6 ^^ y)) := by
    simp only [BitVec.getLsbD_xor, Bool.xor_assoc, Bool.xor_left_comm x]
  rw [crc7Bit, top, BitVec.shiftLeft_xor_distrib]
  exact feedback_xor _ _ _ _ _

/-- What the laws of R132 and R142 ask of the step that takes one byte into a remainder. -/
structure ChecksumStep {w : Nat} (step : BitVec w → Byte → BitVec w) : Prop where
  xor : ∀ c d a b, step (c ^^^ d) (a ^^^ b) = step c a ^^^ step d b
  /-- A zero byte loses nothing of the remainder. -/
  eq_zero : ∀ c, step c 0 = 0 → c = 0
  /-- A single set bit leaves a trace. -/
  bit_ne_zero : ∀ i < 8, step 0 (BitVec.twoPow 8 i) ≠ 0

theorem eq_zero_of_crc7Bit_eq_zero {c : BitVec 7} (zero : crc7Bit c false = 0) : c = 0 := by
  revert c; decide

theorem crc7Byte_checksumStep : ChecksumStep crc7Byte where
  xor c d a b := by simp only [crc7Byte, List.foldl, BitVec.getLsbD_xor, crc7Bit_xor]
  eq_zero c zero := by
    simp only [crc7Byte, List.foldl] at zero
    iterate 8 replace zero := eq_zero_of_crc7Bit_eq_zero zero
    exact zero
  bit_ne_zero := by decide

/-- The feedback term is odd and a shifted value even, so no bit is lost. -/
theorem eq_zero_of_crc16Shift_eq_zero {c : Half} (zero : crc16Shift c = 0) : c = 0 := by
  rw [crc16Shift] at zero
  split_ifs at zero with top
  · have odd := congrArg (BitVec.getLsbD · 0) zero
    simp at odd
  · ext i hi
    have bit := congrArg (BitVec.getLsbD · (i + 1)) zero
    by_cases last : i = 15
    · subst last
      simpa using top
    · simpa [show i + 1 < 16 by omega, hi] using bit

theorem crc16Byte_checksumStep : ChecksumStep crc16Byte where
  xor c d a b := by
    rw [crc16Byte, crc16Byte, crc16Byte, ← eightTimes_xor, BitVec.setWidth_xor, BitVec.shiftLeft_xor_distrib]
    ac_rfl
  eq_zero c zero := by
    have : eightTimes crc16Shift c = 0 := by simpa [crc16Byte] using zero
    iterate 8 replace this := eq_zero_of_crc16Shift_eq_zero this
    exact this
  bit_ne_zero := by decide

namespace ChecksumStep

variable {w : Nat} {step : BitVec w → Byte → BitVec w} (law : ChecksumStep step)
include law

theorem zero : step 0 0 = 0 := by
  simpa using law.xor 0 0 0 0

/-- Linearity over buffers of equal length. -/
theorem foldl_zipWith_xor (a b : List Byte) (r s : BitVec w) (length : a.length = b.length) :
    (List.zipWith (· ^^^ ·) a b).foldl step (r ^^^ s) = a.foldl step r ^^^ b.foldl step s := by
  induction a generalizing b r s with
  | nil =>
    obtain rfl := List.length_eq_zero_iff.mp length.symm
    rfl
  | cons x xs ih =>
    cases b with
    | nil => cases length
    | cons y ys =>
      rw [List.zipWith_cons_cons, List.foldl_cons, law.xor]
      exact ih ys _ _ (Nat.succ.inj length)

theorem foldl_replicate_zero (n : Nat) : (List.replicate n 0).foldl step 0 = 0 := by
  induction n with
  | zero => rfl
  | succ n ih => rw [List.replicate_succ, List.foldl_cons, law.zero, ih]

theorem step_injective (b : Byte) : Function.Injective (step · b) := by
  intro c d same
  have difference := law.xor c d b b
  rw [show step c b = step d b from same, BitVec.xor_self, BitVec.xor_self] at difference
  exact BitVec.xor_eq_zero_iff.mp (law.eq_zero _ difference)

/-- Buffers continued alike keep different remainders apart. -/
theorem foldl_injective (buf : List Byte) : Function.Injective (buf.foldl step) := by
  induction buf with
  | nil => exact Function.injective_id
  | cons b bs ih => exact ih.comp (law.step_injective b)

/-- One differing bit is always seen. -/
theorem foldl_flip_ne (pre post : List Byte) (b : Byte) {i : Nat} (r : BitVec w) (bit : i < 8) :
    (pre ++ b :: post).foldl step r ≠ (pre ++ (b ^^^ BitVec.twoPow 8 i) :: post).foldl step r := by
  rw [List.foldl_append, List.foldl_append]
  refine (law.foldl_injective post).ne fun same => law.bit_ne_zero i bit ?_
  have difference := law.xor (pre.foldl step r) (pre.foldl step r) b (b ^^^ BitVec.twoPow 8 i)
  rw [← BitVec.xor_assoc, BitVec.xor_self, BitVec.xor_self, BitVec.zero_xor] at difference
  exact difference.trans (BitVec.xor_eq_zero_iff.mpr same)

end ChecksumStep

/-- A checksum's own two bytes, high byte first, cancel it: each table index is 0 (R142, R143). -/
theorem crc16_bytes16_self (c : Half) : crc16 (bytes16 c) c = 0 := by
  have high : (c >>> 8).setWidth 8 = c.extractLsb' 8 8 := rfl
  have low : (c <<< 8 >>> 8).setWidth 8 = c.extractLsb' 0 8 := by
    ext i hi
    simp [show 8 + i < 16 by omega, BitVec.getLsbD_eq_getElem, show i < 16 by omega]
  have rest : c <<< 8 <<< 8 = 0 := by
    rw [← BitVec.shiftLeft_add]
    exact BitVec.shiftLeft_eq_zero (Nat.le_refl 16)
  rw [bytes16, ← foldl_acc16Step, List.foldl_cons, List.foldl_cons, List.foldl_nil]
  have first : acc16Step c (c.extractLsb' 8 8) = c <<< 8 := by
    rw [acc16Step, high, BitVec.xor_self]
    exact BitVec.xor_zero
  rw [first, acc16Step, low, BitVec.xor_self, rest]
  rfl

/-- Settles O8: each law is that of the byte step (R132). -/
theorem crc7Algebra : Obligations.Crc7Algebra :=
  ⟨crc7_nil, crc7_append, crc7Byte_checksumStep.foldl_zipWith_xor,
    crc7Byte_checksumStep.foldl_replicate_zero,
    fun pre post b _ r bit => crc7Byte_checksumStep.foldl_flip_ne pre post b r bit⟩

/-- Settles O9: the laws of the byte step, and the residue (R142). -/
theorem crc16Algebra : Obligations.Crc16Algebra :=
  ⟨crc16_nil, crc16_append, crc16Byte_checksumStep.foldl_zipWith_xor,
    crc16Byte_checksumStep.foldl_replicate_zero,
    fun pre post b _ r bit => crc16Byte_checksumStep.foldl_flip_ne pre post b r bit,
    fun buf r => (crc16_append buf _ r).trans (crc16_bytes16_self _)⟩

/-- Settles O6: the accumulator is the remainder shifted left by one (R133). -/
theorem crc7TableForm : Obligations.Crc7TableForm := by
  intro buf r
  rw [foldl_acc7Step]
  exact ⟨acc7Result_acc7Init _, by simp [acc7Init]⟩

/-- Settles O7 (R143). -/
theorem crc16TableForm : Obligations.Crc16TableForm := foldl_acc16Step

theorem acc7Init_setWidth (h : Half) : acc7Init (h.setWidth 7) = h.setWidth 8 <<< 1 := by
  ext i hi
  have : i - 1 < 7 := by omega
  simp [acc7Init, this]

theorem setWidth_seven_eq_and (h : Half) : (h.setWidth 7).setWidth 16 = h &&& 0x7F := by
  apply BitVec.eq_of_toNat_eq
  have low : h.toNat &&& 127 = h.toNat % 128 := Nat.and_two_pow_sub_one_eq_mod h.toNat 7
  have small : h.toNat % 128 < 65536 := by omega
  simpa [low] using small

/-- Settles O14: the two acceptance steps, each by the branch on `len` (R137, R147). -/
theorem crcRequests : Obligations.CrcRequests := by
  intro s src len resIn hb
  refine ⟨{ Config.unspecifiedOperands s.freeCount with op := 5, src := src, len := len, resIn := resIn },
    { Config.unspecifiedOperands s.freeCount with op := 6, src := src, len := len, resIn := resIn },
    rfl, rfl, rfl, rfl, rfl, rfl, rfl, rfl, ?_⟩
  rw [exec, execCrc7, exec, execCrc16, accept_rest _ _ _ _ hb, accept_rest _ _ _ _ hb, ← acc7Init_setWidth]
  split_ifs with empty
  · rw [finishCrc7, acc7Result_acc7Init, setWidth_seven_eq_and]
    exact ⟨rfl, rfl⟩
  · exact ⟨rfl, rfl⟩

end Sys2Proof.Machine

namespace Sys2Proof.Machine

/-! ### The labels of a transaction, one law each -/

/-- Settles O21: the frame of the step's command is sent, and a frame has six bytes. -/
theorem beginTransactionStep : Obligations.BeginTransactionStep := by
  intro s idx arg size hb hm hc
  exact ⟨step_frame s idx arg size hb hm hc, frame_length idx arg⟩

/-! #### The end of the R1 poll -/

theorem pollEnds_iff (r : Byte) (attempt : BitVec 4) :
    pollEnds r attempt = true ↔ r.getLsbD 7 = false ∨ attempt = 8 := by
  simp [pollEnds, r1Busy, Config.ncrAttempts]

/-- READ's command goes on to its R1 check (R246). -/
theorem afterPoll_b1 {s : State} (idx : BitVec 6) (size : Option Nat) (major : s.phase.major = .b1) :
    afterPoll idx size s = afterB1 s := by
  unfold afterPoll
  rw [major]

/-- CMD12 goes on to the end of the read at `B9` (R255). -/
theorem afterPoll_b8 {s : State} (idx : BitVec 6) (size : Option Nat) (major : s.phase.major = .b8) :
    afterPoll idx size s = { s with phase := ⟨.b9, .t9⟩ } := by
  unfold afterPoll
  rw [major]
  rfl

/-- Elsewhere the end of the transaction follows a `SendCommand` (R166). -/
theorem afterPoll_none {s : State} (idx : BitVec 6) (b1 : s.phase.major ≠ .b1) (b8 : s.phase.major ≠ .b8) :
    afterPoll idx none s = { s with phase := ⟨s.phase.major, .t9⟩ } := by
  unfold afterPoll
  split
  case h_1 major => exact absurd major b1
  case h_2 major => exact absurd major b8
  case h_3 => rfl
  case h_4 size _ _ => cases size

/-- `SendCommandWithResult` reads more when `size` > 1, and else ends its transaction (R164). -/
theorem afterPoll_some {s : State} (idx : BitVec 6) (n : Nat) (b1 : s.phase.major ≠ .b1)
    (b8 : s.phase.major ≠ .b8) : afterPoll idx (some n) s =
      if 1 < n then
        if tokenWrapped idx then
          { s with tokenMissing := false, attempt := 0, phase := ⟨s.phase.major, .t3⟩ }
        else { s with tokenMissing := false, phase := ⟨s.phase.major, .t4⟩ }
      else { s with tokenMissing := false, phase := ⟨s.phase.major, .t9⟩ } := by
  unfold afterPoll
  split
  case h_1 major => exact absurd major b1
  case h_2 major => exact absurd major b8
  case h_3 size _ _ => cases size
  case h_4 size _ _ =>
    cases size
    rfl

theorem tokenWrapped_iff (idx : BitVec 6) : tokenWrapped idx = true ↔ idx = 9 ∨ idx = 10 := by
  simp [tokenWrapped]

/-- READ's own commands go through `SendCommand` (R244, R255). -/
theorem major_of_call {s : State} {idx : BitVec 6} {arg : Word} {n : Nat}
    (hc : s.command = some (idx, arg, some n)) : s.phase.major ≠ .b1 ∧ s.phase.major ≠ .b8 := by
  obtain ⟨call, -⟩ := mem_minors_of_call hc
  constructor <;> intro major <;> rw [major] at call <;> cases call

/-- Settles O24: the poll ends (R162), and what follows is the law of `afterPoll` for the step. -/
theorem Transaction.pollEnds : Obligations.PollEnds := by
  intro s idx arg size hb hm stage hc ends
  have poll := run_poll hb hm stage hc
  rw [if_pos ((pollEnds_iff _ _).mpr ends)] at poll
  dsimp only at poll ⊢
  refine ⟨fun b1 failed => ?_, fun b1 ready => ?_, fun b8 => ?_, fun b1 b8 none => ?_,
    fun n call short => ?_, fun n call more not9 not10 => ?_, fun n call more register => ?_⟩
  · rw [poll, afterPoll_b1 (s := s.polled) idx size b1]
    exact congrArg _ (if_pos failed)
  · rw [poll, afterPoll_b1 (s := s.polled) idx size b1]
    exact congrArg _ (if_neg (not_not.mpr ready))
  · rw [poll, afterPoll_b8 (s := s.polled) idx size b8]
    rfl
  · rw [poll, none, afterPoll_none (s := s.polled) idx b1 b8]
    rfl
  all_goals
    subst call
    obtain ⟨b1, b8⟩ := major_of_call hc
    rw [poll, afterPoll_some (s := s.polled) idx n b1 b8]
  · rw [if_neg (by omega)]
    rfl
  · rw [if_pos more, if_neg (mt (tokenWrapped_iff idx).mp (not_or.mpr ⟨not9, not10⟩))]
    rfl
  · rw [if_pos more, if_pos ((tokenWrapped_iff idx).mpr register)]
    rfl

/-! #### The end of a transaction -/

/-- Every step with a label `T9` has something to do there (R166). -/
theorem afterTransaction_next {s : State} (legal : Minor.t9 ∈ s.phase.major.minors) :
    ∃ t, afterTransaction s = .next t := by
  unfold afterTransaction
  cases major : s.phase.major <;> simp_all [Major.minors]

/-- What the closing `Toggle(1)` and the step after it leave on the bus, and whether the operation has
answered (R166, R277). -/
theorem ClosingCase.bus {s t : State} (h : ClosingCase s t) (hb : s.busy = true) :
    t.cs = .deasserted ∧ t.mosiHold = s.mosiHold ∧
      (t.busy = true ∧ t.history = .toggle 1 :: s.history ∨
        t.busy = false ∧ t.history = .response t.kind t.status :: .toggle 1 :: s.history) := by
  cases h with
  | answers => exact ⟨rfl, rfl, .inr ⟨rfl, rfl⟩⟩
  | _ => exact ⟨rfl, rfl, .inl ⟨hb, rfl⟩⟩

/-- Settles O27: a step is due at every legal `T9`, and nothing is half read there. -/
theorem endTransactionStep : Obligations.EndTransactionStep := by
  intro s inv hb minor
  obtain ⟨-, legal⟩ := inv.running hb
  obtain ⟨t, ends⟩ := afterTransaction_next (s := s.toggle 1) (minor ▸ legal)
  obtain ⟨-, released⟩ := inv.still_of_minor hb (.inr minor)
  obtain ⟨cs, mosi, events⟩ := (closingCase_of_afterTransaction ends).bus hb
  exact ⟨t, (step_closing s hb minor).trans ends, cs, mosi.trans released, events⟩

/-- The end of CMD (R168). -/
theorem step_x1_closing {s : State} (hb : s.busy = true) (phase : s.phase = ⟨.x1, .t9⟩) :
    step s = .next (s.ended (if s.r1.getLsbD 7 then .errNoResponse else .ok) s.r1) := by
  rw [step_closing s hb (by rw [phase]), afterTransaction, State.toggle_phase, phase]
  dsimp only
  rw [afterX1, State.toggle_r1, r1Busy]
  cases s.r1.getLsbD 7 <;> rfl

/-- The end of CMDR whose token was missing, whatever R1 was (R169). -/
theorem step_x2_closing_missing {s : State} (hb : s.busy = true) (phase : s.phase = ⟨.x2, .t9⟩)
    (flag : s.tokenMissing = true) : step s = .next (s.ended .errFraming 0xFF) := by
  rw [step_closing s hb (by rw [phase]), afterTransaction, State.toggle_phase, phase]
  dsimp only
  rw [afterX2, State.toggle_tokenMissing, if_pos flag]
  rfl

/-- Settles O28: the end of CMD, and that of CMDR by the flag of the token search. -/
theorem commandAnswers : Obligations.CommandAnswers := by
  intro s hb minor
  refine ⟨fun major => step_x1_closing hb (phase_eq major minor), fun major => ?_⟩
  by_cases flag : s.tokenMissing = true
  · rw [if_pos flag, step_x2_closing_missing hb (phase_eq major minor) flag]
  · rw [if_neg flag, step_x2_closing hb (phase_eq major minor) (Bool.eq_false_iff.mpr flag)]

/-! ### CMD, from request to answer -/

/-- After its R1 poll CMD ends its transaction and answers (R168). -/
theorem step_x1_afterPoll {s : State} (idx : BitVec 6) (hb : s.busy = true) (major : s.phase.major = .x1) :
    step (afterPoll idx none s) =
      .next (s.ended (if s.r1.getLsbD 7 then .errNoResponse else .ok) s.r1) := by
  rw [afterPoll_none idx (by rw [major]; decide) (by rw [major]; decide), major]
  exact step_x1_closing hb rfl

/-- Settles O40: the frame and the poll, then the end of the transaction. -/
theorem cmdOperation : Obligations.CmdOperation := by
  intro s idx arg pre rest r hb stage card high few last
  obtain ⟨o, -, rfl, rfl, accepted⟩ := cmdRequest s idx arg hb
  obtain ⟨attempt, poll⟩ := run_command (idx := o.idx) (arg := o.arg) (size := none)
    (s := { s with
        busy := true, ops := o, freeCount := s.freeCount + 1, phase := { major := .x1, minor := .t1 },
        history := .request (.cmd o.idx o.arg) :: s.history }) rfl rfl stage rfl card high few last
  have ends := (run_add _ 1 _ _ poll).trans ((run_one _).trans (step_x1_afterPoll o.idx rfl rfl))
  refine ⟨_, _, accepted, ends, ⟨rfl, rfl, rfl, rfl⟩, ⟨rfl, rfl, rfl⟩, rfl, rfl, rfl,
    ⟨rfl, rfl, rfl, rfl⟩, rfl, rfl, ?_⟩
  simp only [List.append_assoc, List.cons_append, List.nil_append]
  rfl

/-! ### CMDR of a register whose token does not come -/

/-- The search for a register's token against a card that sends `skip` and then `b`, none of them the token,
`b` with the eighth read (R164, R165). -/
theorem run_failedSearch (b : Byte) (rest : List Byte) (miss : b ≠ 0xFE) (skip : List Byte) :
    ∀ s : State, s.busy = true → s.phase.minor = .t3 → s.rxStage = .hold →
      s.phase.major = .x2 ∨ s.phase.major = .i8 ∨ s.phase.major = .i9 →
      s.card = skip ++ b :: rest → (∀ x ∈ skip, x ≠ 0xFE) → s.attempt.toNat + skip.length = 7 →
      run (3 * skip.length + 3) s = .next { s with
        card := rest, tok := b, attempt := 8, tokenMissing := true, phase := ⟨s.phase.major, .t9⟩,
        cs := .asserted, mosiHold := .released, rxStage := .hold,
        history := pollEvents (skip ++ [b]) ++ s.history } := by
  induction skip with
  | nil =>
    intro s hb hm stage major card _ seventh
    have eighth : s.attempt + 1 = 8 := by
      rw [List.length_nil] at seventh
      bv_omega
    have search := run_search hb hm stage major
    rw [nextByte_script card, if_neg miss, if_pos eighth, searched_script card, eighth] at search
    exact search
  | cons x skip ih =>
    intro s hb hm stage major card other seventh
    rw [List.length_cons] at seventh
    have search := run_search hb hm stage major
    have searched := searched_script card
    have attempt : s.searched.attempt.toNat = s.attempt.toNat + 1 := by
      rw [searched]
      bv_omega
    rw [nextByte_script card, if_neg (other x List.mem_cons_self), if_neg (by bv_omega)] at search
    have later := ih s.searched hb hm rfl major (by rw [searched]; rfl)
      (fun y hy => other y (List.mem_cons_of_mem x hy)) (by omega)
    rw [List.length_cons, show 3 * (skip.length + 1) + 3 = 3 + (3 * skip.length + 3) by omega,
      run_add _ _ _ _ search, later, searched, List.cons_append, pollEvents_cons, List.append_assoc]

/-- CMDR of a register after its R1 poll, when no token comes: eight reads and the answer (R164, R169). -/
theorem run_x2_missing {s : State} {idx : BitVec 6} {n : Nat} {skip rest : List Byte} {b : Byte}
    (hb : s.busy = true) (major : s.phase.major = .x2) (stage : s.rxStage = .hold)
    (register : idx = 9 ∨ idx = 10) (more : 1 < n) (card : s.card = skip ++ b :: rest)
    (other : ∀ x ∈ skip ++ [b], x ≠ 0xFE) (seven : skip.length = 7) :
    run 25 (afterPoll idx (some n) s) = .next ({ s with
      tokenMissing := true, attempt := 8, tok := b, card := rest, mosiHold := .released,
      rxStage := .hold, history := pollEvents (skip ++ [b]) ++ s.history }.ended .errFraming 0xFF) := by
  have search := run_failedSearch b rest (other b (by simp)) skip
    { s with tokenMissing := false, attempt := 0, phase := ⟨.x2, .t3⟩ } hb rfl stage (.inl rfl) card
    (fun x hx => other x (List.mem_append_left _ hx)) (by simpa using seven)
  rw [seven] at search
  rw [afterPoll_x2_register major register more, run_add 24 1 _ _ search, run_one]
  exact step_x2_closing_missing hb rfl rfl

/-- Settles O43: the frame and the poll, then the token search that fails, then the answer. -/
theorem cmdrTokenMissing : Obligations.CmdrTokenMissing := by
  intro s idx arg size pre skip rest r hb stage card high few last other eight register more legal
  obtain rfl | ⟨skip, b, rfl⟩ := skip.eq_nil_or_concat'
  · cases eight
  rw [List.append_assoc] at card
  obtain ⟨o, -, rfl, rfl, rfl, accepted⟩ := cmdrRequest s idx arg size hb
  rw [if_pos legal] at accepted
  obtain ⟨attempt, poll⟩ := run_command (idx := o.idx) (arg := o.arg) (size := some o.size.toNat)
    (s := { s with
        busy := true, ops := o, freeCount := s.freeCount + 1,
        tokenMissing := false, phase := { major := .x2, minor := .t1 },
        history := .request (.cmdr o.idx o.arg o.size) :: s.history }) rfl rfl stage rfl card high few last
  have ends := (run_add _ _ _ _ poll).trans
    (run_x2_missing rfl rfl rfl register more rfl other (by simpa using eight))
  refine ⟨_, _, accepted, ends, ⟨rfl, rfl, rfl, rfl⟩, ⟨rfl, rfl, rfl⟩, rfl, rfl, rfl,
    ⟨rfl, rfl, rfl, rfl⟩, rfl, rfl, ?_⟩
  simp only [List.append_assoc, List.cons_append, List.nil_append]
  rfl

end Sys2Proof.Machine

namespace Sys2Proof.Machine

/-! ### The checks of the OCR and of the CSD -/

/-- R1 above 0x01 is any R1 but 0x00 and 0x01 (R210). -/
theorem one_lt_r1_iff (r : Byte) : 0x01 < r ↔ ¬(r = 0x00 ∨ r = 0x01) := by
  bv_omega

/-- The bound of the loop is at least 1, so the first pass is always made (R8, R213). -/
theorem iterExhausted_zero : iterExhausted 0 = false := by
  rw [Bool.eq_false_iff, ne_eq, iterExhausted_iff, Config.acmd41MaxIter, Option.map_eq_some_iff]
  rintro ⟨m, -, zero⟩
  exact Nat.succ_ne_zero m zero

/-- Settles O32: R1, then the voltage predicate; a loop that begins has room for a pass (R211, R213). -/
theorem initAfterCmd58 : Obligations.InitAfterCmd58 := by
  intro s hb phase
  rw [step_closing s hb (by rw [phase]), afterTransaction, State.toggle_phase, phase]
  dsimp only
  rw [afterI5, State.toggle_r1, State.toggle_resp]
  dsimp only
  rw [ocrOf, loopHead]
  by_cases r1 : s.r1 = 0x00 ∨ s.r1 = 0x01
  · rw [if_neg (mt (one_lt_r1_iff _).mp (not_not.mpr r1)), if_pos r1]
    by_cases vdd : Config.vddAcceptable (be32 s.resp[0] s.resp[1] s.resp[2] s.resp[3]) = true
    · rw [if_pos vdd, if_pos vdd, if_neg (by rw [iterExhausted_zero]; decide)]
      rfl
    · rw [if_neg vdd, if_neg vdd]
      rfl
  · rw [if_pos ((one_lt_r1_iff _).mpr r1), if_neg r1]
    rfl

/-- The CSD size field as a number (R223). -/
theorem cSize_toNat (resp : Vector Byte 18) :
    (cSize resp).toNat = (resp[7].toNat % 64) * 65536 + resp[8].toNat * 256 + resp[9].toNat := by
  have low := resp[9].isLt
  have middle := resp[8].isLt
  rw [cSize, BitVec.toNat_append, BitVec.toNat_append, BitVec.extractLsb'_toNat,
    ← Nat.shiftLeft_add_eq_or_of_lt low, ← Nat.shiftLeft_add_eq_or_of_lt middle, Nat.shiftLeft_eq,
    Nat.shiftLeft_eq, Nat.shiftRight_zero]
  omega

/-- The block count in the naturals, modulo 2^32 (R224). -/
theorem blockCount_eq (c : BitVec 22) : blockCount c = BitVec.ofNat 32 ((c.toNat + 1) * 1024) := by
  have bound := c.isLt
  apply BitVec.eq_of_toNat_eq
  rw [blockCount, BitVec.toNat_mul, BitVec.toNat_add, BitVec.toNat_setWidth, BitVec.toNat_ofNat]
  simp

/-- Settles O35: the three checks in order, then the commit of both registers (R222 to R224). -/
theorem initAfterCsd : Obligations.InitAfterCsd := by
  intro s hb phase
  rw [step_closing s hb (by rw [phase]), afterTransaction, State.toggle_phase, phase]
  dsimp only
  rw [afterI9, State.toggle_r1, State.toggle_tokenMissing, State.toggle_resp]
  dsimp only
  rw [State.toggle_ccsNew, blockCount_eq, cSize_toNat, csdCrc, csdRxCrc, show Config.regLen = 16 from rfl]
  by_cases r1 : s.r1 ≠ 0x00
  · rw [if_pos r1, if_pos r1]
    rfl
  rw [if_neg r1, if_neg r1]
  by_cases missing : s.tokenMissing = true
  · rw [if_pos missing, if_pos missing]
    rfl
  rw [if_neg missing, if_neg missing]
  by_cases crc : crc16 (s.resp.toList.take 16) 0 ≠ be16 s.resp[16] s.resp[17]
  · rw [if_pos crc, if_pos crc]
    rfl
  · rw [if_neg crc, if_neg crc]
    rfl

end Sys2Proof.Machine

namespace Sys2Proof.Machine

/-! ### A transaction against a card that answers at once -/

/-- `s` at the end of an R1 poll that the first byte `r` ended, `rest` still to come (R161, R162). -/
def State.replied (s : State) (frame : List Byte) (r : Byte) (rest : List Byte)
    (attempt : BitVec 4) : State :=
  { s with card := rest, r1 := r, attempt := attempt, phase := ⟨s.phase.major, .t2⟩, cs := .asserted,
           mosiHold := .released, rxStage := .hold,
           history := readEvents [r] ++ .writeContinue frame :: s.history }

/-- `s` at the end of a transaction with these events, newest first: R1 was `r`, the additional bytes were
`data`, and `rest` is still to come (R164, R166). -/
def State.exchanged (s : State) (r : Byte) (data rest : List Byte) (attempt : BitVec 4) (tok : Byte)
    (events : List Event) : State :=
  { s with card := rest, r1 := r, resp := storeFrom s.resp 0 data, attempt := attempt, tok := tok,
           phase := ⟨s.phase.major, .t9⟩, cs := .asserted, mosiHold := .released, rxStage := .hold,
           history := events ++ s.history }

section
variable {s : State} {idx : BitVec 6} {arg : Word} {r : Byte} {data rest : List Byte} (hb : s.busy = true)
  (hm : s.phase.minor = .t1) (stage : s.rxStage = .hold)
include hb hm stage

/-- A command whose poll the first byte ends. -/
theorem run_reply {size : Option Nat} (hc : s.command = some (idx, arg, size)) (card : s.card = r :: rest)
    (low : r.getLsbD 7 = false) :
    ∃ attempt, run 4 s = .next (afterPoll idx size (s.replied (frame idx arg) r rest attempt)) :=
  run_command (pre := []) hb hm stage hc card nofun (by decide) (.inl low)

/-- A `SendCommand`. -/
theorem run_sendCommand (hc : s.command = some (idx, arg, none))
    (closes : s.phase.major ≠ .b1 ∧ s.phase.major ≠ .b8) (card : s.card = r :: rest)
    (low : r.getLsbD 7 = false) :
    ∃ attempt, run 4 s = .next (s.exchanged r [] rest attempt s.tok
      (readEvents [r] ++ [.writeContinue (frame idx arg)])) := by
  obtain ⟨attempt, poll⟩ := run_reply hb hm stage hc card low
  rw [afterPoll_none (s := s.replied _ _ _ _) idx closes.1 closes.2] at poll
  exact ⟨attempt, poll⟩

/-- A `SendCommandWithResult` of a response without a token (R164). -/
theorem run_sendCommandWithResult {n : Nat} (hc : s.command = some (idx, arg, some n)) (more : 1 < n)
    (plain : tokenWrapped idx = false) (card : s.card = r :: (data ++ rest)) (length : data.length = n - 1)
    (low : r.getLsbD 7 = false) :
    ∃ attempt, run 7 s = .next { s.exchanged r data rest attempt s.tok
      (readEvents data ++ readEvents [r] ++ [.writeContinue (frame idx arg)]) with
        tokenMissing := false } := by
  obtain ⟨b1, b8⟩ := major_of_call hc
  obtain ⟨attempt, poll⟩ := run_reply hb hm stage hc card low
  rw [afterPoll_some (s := s.replied _ _ _ _) idx n b1 b8, if_pos more, plain, if_neg (by decide)] at poll
  exact ⟨attempt, (run_add 4 3 _ _ poll).trans (run_additional_script hb rfl rfl hc rfl length)⟩

/-- A `SendCommandWithResult` of a register whose token is the first byte after R1 (R164, R165). -/
theorem run_sendRegisterCommand {n : Nat} (hc : s.command = some (idx, arg, some n)) (more : 1 < n)
    (wrapped : tokenWrapped idx = true)
    (searches : s.phase.major = .x2 ∨ s.phase.major = .i8 ∨ s.phase.major = .i9)
    (card : s.card = r :: 0xFE :: (data ++ rest)) (length : data.length = n - 1) (low : r.getLsbD 7 = false) :
    ∃ attempt, run 10 s = .next { s.exchanged r data rest attempt 0xFE
      (readEvents data ++ readEvents [0xFE] ++ readEvents [r] ++ [.writeContinue (frame idx arg)]) with
        tokenMissing := false } := by
  obtain ⟨b1, b8⟩ := major_of_call hc
  obtain ⟨attempt, poll⟩ := run_reply hb hm stage hc card low
  rw [afterPoll_some (s := s.replied _ _ _ _) idx n b1 b8, if_pos more, if_pos wrapped] at poll
  have found := (run_add 4 3 _ _ poll).trans
    (run_wholeSearch (data ++ rest) [] _ hb rfl rfl searches rfl nofun
      (show (0 : BitVec 4).toNat + 0 < 8 by decide))
  exact ⟨_, (run_add 7 3 _ _ found).trans (run_additional_script hb rfl rfl hc rfl length)⟩

end

/-! ### The frames of a history -/

/-- The frame that an event sends, if it sends one. -/
def Event.sentFrame : Event → Option (List Byte)
  | .writeContinue bytes => some bytes
  | _ => none

/-- The frames that the events send, newest first. -/
def sentFrames (events : List Event) : List (List Byte) := events.filterMap Event.sentFrame

theorem sentFrame_eq_some (e : Event) (bytes : List Byte) :
    e.sentFrame = some bytes ↔ e = .writeContinue bytes := by
  cases e <;> simp [Event.sentFrame]

theorem mem_sentFrames {events : List Event} {bytes : List Byte} :
    bytes ∈ sentFrames events ↔ .writeContinue bytes ∈ events := by
  simp [sentFrames, sentFrame_eq_some]

theorem count_writeContinue (events : List Event) (bytes : List Byte) :
    events.count (.writeContinue bytes) = (sentFrames events).count bytes := by
  rw [sentFrames, List.count_filterMap, List.count_eq_countP]
  refine List.countP_congr fun e _ => ?_
  rw [beq_iff_eq, beq_iff_eq, sentFrame_eq_some]

/-- A run only adds events. -/
theorem run_history (n : Nat) {s t : State} (h : run n s = .next t) : s.history <:+ t.history := by
  induction n generalizing s with
  | zero =>
    cases h
    exact List.suffix_refl _
  | succ n ih =>
    cases first : step s with
    | next u =>
      obtain ⟨new, grown, -⟩ := eventSources s u first
      rw [run_succ n s u first] at h
      exact (grown ▸ List.suffix_append new s.history).trans (ih h)
    | fault f => simp [run, first] at h
    | refused r => simp [run, first] at h

/-! ### INIT before its last check -/

/-- What INIT, begun at `s`, has left at `t` before its last check: the session is cleared, the clock slow,
and these frames were sent, newest first. -/
structure InitSoFar (s t : State) (frames : List (List Byte)) : Prop where
  mem : t.mem = s.mem
  crcOut : t.crcOut = s.crcOut
  requests : t.requests = s.requests
  blocks : t.blocks = 0
  ccs : t.ccs = false
  clkHz : t.clkHz = 400000
  sent : sentFrames t.history = frames ++ sentFrames s.history

/-- INIT, begun at `s`, stands at the frame of a step, before a card that will send `card`. -/
structure InitAt (s t : State) (major : Major) (card : List Byte) (frames : List (List Byte)) : Prop where
  busy : t.busy = true
  phase : t.phase = ⟨major, .t1⟩
  stage : t.rxStage = .hold
  card : t.card = card
  soFar : InitSoFar s t frames

/-- INIT, begun at `s`, has ended READY at `t` with this session (R216, R224, R229). -/
structure InitReady (s t : State) (blocks : Word) (ccs : Bool) (card : List Byte)
    (frames : List (List Byte)) : Prop where
  answered : t.answered .ok 0x00
  released : t.busReleased
  mem : t.mem = s.mem
  crcOut : t.crcOut = s.crcOut
  blocks : t.blocks = blocks
  ccs : t.ccs = ccs
  clkHz : t.clkHz = 25000000
  card : t.card = card
  sent : sentFrames t.history = frames ++ sentFrames s.history

/-- A transaction keeps what INIT has left so far, its frame apart. -/
theorem InitSoFar.send {s t u : State} {bytes : List Byte} {frames : List (List Byte)}
    (h : InitSoFar s t frames)
    (session : u.sameSession t) (crcOut : u.crcOut = t.crcOut) (requests : u.requests = t.requests)
    (sent : sentFrames u.history = bytes :: sentFrames t.history) :
    InitSoFar s u (bytes :: frames) where
  mem := session.2.2.2.trans h.mem
  crcOut := crcOut.trans h.crcOut
  requests := requests.trans h.requests
  blocks := session.1.trans h.blocks
  ccs := session.2.1.trans h.ccs
  clkHz := session.2.2.1.trans h.clkHz
  sent := by rw [sent, h.sent, List.cons_append]

theorem run_closing {n : Nat} {s t u : State} (h : run n s = .next t) (ends : step t = .next u) :
    run (n + 1) s = .next u :=
  (run_add n 1 _ _ h).trans ((run_one t).trans ends)

/-- A transaction ends at the label `T9` of its step (R166). -/
theorem closing_phase {s : State} {major : Major} {minor : Minor} (phase : s.phase = ⟨major, minor⟩) :
    (⟨s.phase.major, .t9⟩ : Phase) = ⟨major, .t9⟩ := by
  rw [phase]

/-- A register that the stored bytes reach holds its byte (R33). -/
theorem storeFrom_zero_get_lt {n : Nat} (v : Vector Byte n) (bs : List Byte) (i : Nat) (hi : i < n)
    (reached : i < bs.length) : (storeFrom v 0 bs)[i] = bs.getD i 0 :=
  (storeFrom_zero_get v bs i hi).trans (if_pos reached)

/-- The OCR of CMD58's additional bytes (R104, R210). -/
theorem ocr_storeFrom (v : Vector Byte 18) (o0 o1 o2 o3 : Byte) :
    ocrOf (storeFrom v 0 [o0, o1, o2, o3]) = be32 o0 o1 o2 o3 := by
  simp [ocrOf, storeFrom_zero_get_lt]

/-- The CSD and its CRC-16 in the additional bytes of CMD9 (R223). -/
theorem csd_storeFrom (v : Vector Byte 18) {csd : List Byte} (c0 c1 : Byte) (length : csd.length = 16) :
    (storeFrom v 0 (csd ++ [c0, c1])).toList.take 16 = csd ∧
      (storeFrom v 0 (csd ++ [c0, c1]))[16] = c0 ∧ (storeFrom v 0 (csd ++ [c0, c1]))[17] = c1 ∧
      ∀ i (hi : i < 16), (storeFrom v 0 (csd ++ [c0, c1]))[i] = csd.getD i 0 := by
  refine ⟨?_, ?_, ?_, fun i hi => ?_⟩
  · rw [storeFrom_full _ _ (by simp [length]), ← length, List.take_left]
  · rw [storeFrom_zero_get_lt _ _ 16 _ (by simp [length])]
    simp [length]
  · rw [storeFrom_zero_get_lt _ _ 17 _ (by simp [length])]
    simp [length]
  · rw [storeFrom_zero_get_lt _ _ i _ (by simp [length]; omega)]
    exact List.getD_append _ _ _ _ (length ▸ hi)

/-! The branches of `initLoop`, and of `initClockSteps`, one lemma each. -/

section
variable {s : State} (hb : s.busy = true)
include hb

theorem step_i6a_closing (phase : s.phase = ⟨.i6a, .t9⟩) : step s = .next (s.closed .i6b .t1) :=
  (initLoop s hb (by rw [phase])).1 (by rw [phase])

theorem step_i6b_closing (phase : s.phase = ⟨.i6b, .t9⟩) : step s = .next (
    if s.r1 = 0x00 then
      (if s.v2 then { s.closed .i7 .t1 with tokenMissing := false, iter := s.iter + 1 }
       else { s.closed .i10 .none with iter := s.iter + 1 })
    else if Config.acmd41MaxIter = some (s.iter + 1) then
      { s.ended .errOpcondTimeout s.r1 with iter := s.iter + 1 }
    else { s.closed .i6a .t1 with iter := s.iter + 1 }) :=
  (initLoop s hb (by rw [phase])).2.2 (by rw [phase])

theorem step_i8_closing (phase : s.phase = ⟨.i8, .t9⟩) :
    step s = .next { s.closed .i9 .t1 with tokenMissing := false } :=
  (initLoop s hb (by rw [phase])).2.1 (by rw [phase])

theorem step_i1 (phase : s.phase = ⟨.i1, .none⟩) : step s = .next { s with
    clkHz := 400000, phase := ⟨.i2, .none⟩, history := .setClock 400000 :: s.history } :=
  (initClockSteps s hb (by rw [phase])).1 (by rw [phase])

theorem step_i2 (phase : s.phase = ⟨.i2, .none⟩) : step s = .next { s with
    cs := .deasserted, phase := ⟨.i3, .t1⟩, history := .toggle 10 :: s.history } :=
  (initClockSteps s hb (by rw [phase])).2.1 (by rw [phase])

theorem step_i10 (phase : s.phase = ⟨.i10, .none⟩) : step s = .next { s with
    clkHz := 25000000, kind := .ok, status := 0x00, busy := false, phase := Phase.rest,
    history := .response .ok 0x00 :: .setClock 25000000 :: s.history } :=
  (initClockSteps s hb (by rw [phase])).2.2 (by rw [phase])

end

section
variable {s t : State} {r : Byte} {rest : List Byte} {frames : List (List Byte)}

/-- CMD0 (R206). -/
theorem InitAt.run_i3 (h : InitAt s t .i3 (0x01 :: rest) frames) :
    ∃ u, run 5 t = .next u ∧ InitAt s u .i4 rest (frame 0 0 :: frames) := by
  obtain ⟨busy, phase, stage, card, soFar⟩ := h
  obtain ⟨attempt, exchange⟩ := run_sendCommand busy (by rw [phase]) stage
    (by rw [State.command, phase]) (by rw [phase]; decide) card (by decide)
  have ends := run_closing exchange (initAfterCmd0 _ busy (closing_phase phase))
  exact ⟨_, ends.trans (congrArg _ (if_pos rfl)), busy, rfl, rfl, rfl,
    soFar.send ⟨rfl, rfl, rfl, rfl⟩ rfl rfl rfl⟩

/-- CMD8, answered by a V1 card or by a V2 card that returns the pattern (R207, R208). -/
theorem InitAt.run_i4 {e0 e1 e2 e3 : Byte} {v2 : Bool}
    (h : InitAt s t .i4 (r :: ([e0, e1, e2, e3] ++ rest)) frames)
    (answer : r = 0x05 ∧ v2 = false ∨ r = 0x01 ∧ e3 = 0xAA ∧ v2 = true) :
    ∃ u, run 8 t = .next u ∧ InitAt s u .i5 rest (frame 8 Config.cmd8Arg :: frames) ∧ u.v2 = v2 := by
  obtain ⟨busy, phase, stage, card, soFar⟩ := h
  have low : r.getLsbD 7 = false := by
    rcases answer with ⟨rfl, -⟩ | ⟨rfl, -⟩ <;> decide
  obtain ⟨attempt, exchange⟩ := run_sendCommandWithResult busy (by rw [phase]) stage
    (by rw [State.command, phase]) (by decide) (by decide) card rfl low
  have ends := run_closing exchange (initAfterCmd8 _ busy (closing_phase phase))
  rcases answer with ⟨rfl, rfl⟩ | ⟨rfl, rfl, rfl⟩
  · exact ⟨_, ends.trans (congrArg _ (if_pos rfl)),
      ⟨busy, rfl, rfl, rfl, soFar.send ⟨rfl, rfl, rfl, rfl⟩ rfl rfl rfl⟩, rfl⟩
  · have notV1 : (0x01 : Byte) ≠ 0x05 := by decide
    exact ⟨_, ends.trans (congrArg _ ((if_neg notV1).trans ((if_pos rfl).trans
        (if_pos (storeFrom_zero_get_lt _ [e0, e1, e2, 0xAA] 3 (by decide) (by simp)))))),
      ⟨busy, rfl, rfl, rfl, soFar.send ⟨rfl, rfl, rfl, rfl⟩ rfl rfl rfl⟩, rfl⟩

/-- The first CMD58: the OCR decides between the loop and a voltage error (R210, R211). -/
theorem InitAt.run_i5 {o0 o1 o2 o3 : Byte} (h : InitAt s t .i5 (0x01 :: ([o0, o1, o2, o3] ++ rest)) frames) :
    ∃ u, run 8 t = .next u ∧
      if Config.vddAcceptable (be32 o0 o1 o2 o3) = false then
        InitSoFar s u (frame 58 0 :: frames) ∧ u.answered .errVoltage 0xFF ∧ u.busReleased
      else InitAt s u .i6a rest (frame 58 0 :: frames) ∧ u.v2 = t.v2 ∧ u.iter = 0 := by
  obtain ⟨busy, phase, stage, card, soFar⟩ := h
  obtain ⟨attempt, exchange⟩ := run_sendCommandWithResult busy (by rw [phase]) stage
    (by rw [State.command, phase]) (by decide) (by decide) card rfl (by decide)
  have ends := (run_closing exchange (initAfterCmd58 _ busy (closing_phase phase))).trans
    (congrArg _ (if_pos (.inr rfl)))
  have ocr := ocr_storeFrom t.resp o0 o1 o2 o3
  cases vdd : Config.vddAcceptable (be32 o0 o1 o2 o3) with
  | false =>
    exact ⟨_, ends.trans (congrArg _ (if_neg (by rw [← ocr] at vdd; exact Bool.eq_false_iff.mp vdd))),
      soFar.send ⟨rfl, rfl, rfl, rfl⟩ rfl rfl rfl, ⟨rfl, rfl, rfl, rfl⟩, rfl, rfl, rfl⟩
  | true =>
    exact ⟨_, ends.trans (congrArg _ (if_pos (by rw [← ocr] at vdd; exact vdd))),
      ⟨busy, rfl, rfl, rfl, soFar.send ⟨rfl, rfl, rfl, rfl⟩ rfl rfl rfl⟩, rfl, rfl⟩

/-- CMD55, whose R1 is ignored (R215). -/
theorem InitAt.run_i6a (h : InitAt s t .i6a (r :: rest) frames) (low : r.getLsbD 7 = false) :
    ∃ u, run 5 t = .next u ∧ InitAt s u .i6b rest (frame 55 0 :: frames) ∧
      u.v2 = t.v2 ∧ u.iter = t.iter := by
  obtain ⟨busy, phase, stage, card, soFar⟩ := h
  obtain ⟨attempt, exchange⟩ := run_sendCommand busy (by rw [phase]) stage
    (by rw [State.command, phase]) (by rw [phase]; decide) card low
  exact ⟨_, run_closing exchange (step_i6a_closing busy (closing_phase phase)),
    ⟨busy, rfl, rfl, rfl, soFar.send ⟨rfl, rfl, rfl, rfl⟩ rfl rfl rfl⟩, rfl, rfl⟩

/-- ACMD41 of a card that is not ready, where the bound leaves room for another pass (R213). -/
theorem InitAt.run_i6b_busy (h : InitAt s t .i6b (r :: rest) frames) (low : r.getLsbD 7 = false)
    (notReady : r ≠ 0x00) (room : Config.acmd41MaxIter ≠ some (t.iter + 1)) :
    ∃ u, run 5 t = .next u ∧ InitAt s u .i6a rest (frame 41 Config.acmd41Arg :: frames) ∧
      u.v2 = t.v2 ∧ u.iter = t.iter + 1 := by
  obtain ⟨busy, phase, stage, card, soFar⟩ := h
  obtain ⟨attempt, exchange⟩ := run_sendCommand busy (by rw [phase]) stage
    (by rw [State.command, phase]) (by rw [phase]; decide) card low
  have ends := run_closing exchange (step_i6b_closing busy (closing_phase phase))
  exact ⟨_, ends.trans (congrArg _ ((if_neg notReady).trans (if_neg room))),
    ⟨busy, rfl, rfl, rfl, soFar.send ⟨rfl, rfl, rfl, rfl⟩ rfl rfl rfl⟩, rfl, rfl⟩

/-- ACMD41 of a V2 card that is ready (R217). -/
theorem InitAt.run_i6b_v2 (h : InitAt s t .i6b (0x00 :: rest) frames) (v2 : t.v2 = true) :
    ∃ u, run 5 t = .next u ∧ InitAt s u .i7 rest (frame 41 Config.acmd41Arg :: frames) := by
  obtain ⟨busy, phase, stage, card, soFar⟩ := h
  obtain ⟨attempt, exchange⟩ := run_sendCommand busy (by rw [phase]) stage
    (by rw [State.command, phase]) (by rw [phase]; decide) card (by decide)
  have ends := run_closing exchange (step_i6b_closing busy (closing_phase phase))
  exact ⟨_, ends.trans (congrArg _ ((if_pos rfl).trans (if_pos v2))),
    busy, rfl, rfl, rfl, soFar.send ⟨rfl, rfl, rfl, rfl⟩ rfl rfl rfl⟩

/-- ACMD41 of a V1 card that is ready, and the READY answer (R209, R216). -/
theorem InitAt.run_i6b_v1 (h : InitAt s t .i6b (0x00 :: rest) frames) (v1 : t.v2 = false) :
    ∃ u, run 6 t = .next u ∧ InitReady s u 0 false rest (frame 41 Config.acmd41Arg :: frames) := by
  obtain ⟨busy, phase, stage, card, soFar⟩ := h
  obtain ⟨attempt, exchange⟩ := run_sendCommand busy (by rw [phase]) stage
    (by rw [State.command, phase]) (by rw [phase]; decide) card (by decide)
  have ready := (run_closing exchange (step_i6b_closing busy (closing_phase phase))).trans
    (congrArg _ ((if_pos rfl).trans (if_neg (Bool.eq_false_iff.mp v1))))
  exact ⟨_, run_closing ready (step_i10 busy rfl), ⟨rfl, rfl, rfl, rfl⟩, ⟨rfl, rfl, rfl⟩, soFar.mem,
    soFar.crcOut, soFar.blocks, soFar.ccs, rfl, rfl, congrArg (frame 41 Config.acmd41Arg :: ·) soFar.sent⟩

/-- The second CMD58, once the card reports power-up (R219, R220). -/
theorem InitAt.run_i7 {p0 p1 p2 p3 : Byte} (h : InitAt s t .i7 (0x00 :: ([p0, p1, p2, p3] ++ rest)) frames)
    (powerUp : p0.getLsbD 7 = true) :
    ∃ u, run 8 t = .next u ∧ InitAt s u .i8 rest (frame 58 0 :: frames) ∧ u.ccsNew = p0.getLsbD 6 := by
  obtain ⟨busy, phase, stage, card, soFar⟩ := h
  obtain ⟨attempt, exchange⟩ := run_sendCommandWithResult busy (by rw [phase]) stage
    (by rw [State.command, phase]) (by decide) (by decide) card rfl (by decide)
  have ends := run_closing exchange (initAfterSecondCmd58 _ busy (closing_phase phase))
  have first (i : Nat) : (storeFrom t.resp 0 [p0, p1, p2, p3])[0].getLsbD i = p0.getLsbD i := by
    rw [storeFrom_zero_get_lt _ _ 0 (by decide) (by simp)]
    rfl
  exact ⟨_, ends.trans (congrArg _ ((if_pos rfl).trans (if_pos ((first 7).trans powerUp)))),
    ⟨busy, rfl, rfl, rfl, soFar.send ⟨rfl, rfl, rfl, rfl⟩ rfl rfl rfl⟩, first 6⟩

/-- The first CMD9, wholly discarded (R221). -/
theorem InitAt.run_i8 {discarded : List Byte} (h : InitAt s t .i8 (r :: 0xFE :: (discarded ++ rest)) frames)
    (low : r.getLsbD 7 = false) (length : discarded.length = 18) :
    ∃ u, run 11 t = .next u ∧ InitAt s u .i9 rest (frame 9 0 :: frames) ∧ u.ccsNew = t.ccsNew := by
  obtain ⟨busy, phase, stage, card, soFar⟩ := h
  obtain ⟨attempt, exchange⟩ := run_sendRegisterCommand busy (by rw [phase]) stage
    (by rw [State.command, phase]) (by decide) (by decide) (by rw [phase]; decide) card length low
  exact ⟨_, run_closing exchange (step_i8_closing busy (closing_phase phase)),
    ⟨busy, rfl, rfl, rfl, soFar.send ⟨rfl, rfl, rfl, rfl⟩ rfl rfl rfl⟩, rfl⟩

/-- The second CMD9 up to its CRC check, from which the session follows (R222 to R224). -/
theorem InitAt.run_i9 {csd : List Byte} {c0 c1 : Byte}
    (h : InitAt s t .i9 (0x00 :: 0xFE :: ((csd ++ [c0, c1]) ++ rest)) frames) (length : csd.length = 16) :
    if crc16 csd 0 ≠ be16 c0 c1 then
      ∃ u, run 11 t = .next u ∧ InitSoFar s u (frame 9 0 :: frames) ∧ u.answered .errCrc 0xFF ∧
        u.busReleased ∧ u.card = rest
    else ∃ u, run 12 t = .next u ∧ InitReady s u (BitVec.ofNat 32
      (((csd.getD 7 0).toNat % 64 * 65536 + (csd.getD 8 0).toNat * 256 + (csd.getD 9 0).toNat + 1) * 1024))
      t.ccsNew rest (frame 9 0 :: frames) := by
  obtain ⟨busy, phase, stage, card, soFar⟩ := h
  obtain ⟨attempt, exchange⟩ := run_sendRegisterCommand busy (by rw [phase]) stage
    (by rw [State.command, phase]) (by decide) (by decide) (by rw [phase]; decide) card (by simp [length])
    (by decide)
  have ends := (run_closing exchange (initAfterCsd _ busy (closing_phase phase))).trans
    (congrArg _ ((if_neg (not_not.mpr rfl)).trans (if_neg Bool.false_ne_true)))
  obtain ⟨payload, high, low, bytes⟩ := csd_storeFrom t.resp c0 c1 length
  have check : crc16 ((storeFrom t.resp 0 (csd ++ [c0, c1])).toList.take 16) 0 ≠
      be16 (storeFrom t.resp 0 (csd ++ [c0, c1]))[16] (storeFrom t.resp 0 (csd ++ [c0, c1]))[17] ↔
      crc16 csd 0 ≠ be16 c0 c1 := by
    rw [payload, high, low]
  split_ifs with wrong
  · exact ⟨_, ends.trans (congrArg _ (if_pos (check.mpr wrong))),
      soFar.send ⟨rfl, rfl, rfl, rfl⟩ rfl rfl rfl, ⟨rfl, rfl, rfl, rfl⟩, ⟨rfl, rfl, rfl⟩, rfl⟩
  · refine ⟨_, run_closing (ends.trans (congrArg _ (if_neg (mt check.mp wrong)))) (step_i10 busy rfl),
      ⟨rfl, rfl, rfl, rfl⟩, ⟨rfl, rfl, rfl⟩, soFar.mem, soFar.crcOut, ?_, rfl, rfl, rfl,
      congrArg (frame 9 0 :: ·) soFar.sent⟩
    rw [← bytes 7 (by decide), ← bytes 8 (by decide), ← bytes 9 (by decide)]
    rfl

end

/-! ### INIT, from request to answer -/

/-- The frames of so many passes of the loop, newest first (R213). -/
def loopFrames (n : Nat) : List (List Byte) :=
  (List.replicate n [frame 41 Config.acmd41Arg, frame 55 0]).flatten

theorem loopFrames_succ (n : Nat) :
    loopFrames (n + 1) = loopFrames n ++ [frame 41 Config.acmd41Arg, frame 55 0] := by
  simp [loopFrames, List.replicate_succ']

/-- The passes of a card that is not ready, within the bound (R213, R215). -/
theorem InitAt.run_busyPasses {s : State} {rest : List Byte} (passes : List (Byte × Byte)) :
    ∀ {t : State} {frames : List (List Byte)},
      InitAt s t .i6a (passes.flatMap (fun x => [x.1, x.2]) ++ rest) frames →
      (∀ x ∈ passes, x.1.getLsbD 7 = false ∧ x.2.getLsbD 7 = false ∧ x.2 ≠ 0x00) →
      (∀ n, Config.acmd41MaxIter = some n → t.iter + passes.length < n) →
      ∃ u, run (10 * passes.length) t = .next u ∧
        InitAt s u .i6a rest (loopFrames passes.length ++ frames) ∧ u.v2 = t.v2 := by
  induction passes with
  | nil => exact fun h _ _ => ⟨_, rfl, h, rfl⟩
  | cons x passes ih =>
    intro t frames h busy room
    rw [List.length_cons] at room
    obtain ⟨low55, low41, notReady⟩ := busy x List.mem_cons_self
    obtain ⟨a, run55, at41, v2a, itera⟩ := h.run_i6a low55
    have more : Config.acmd41MaxIter ≠ some (a.iter + 1) := fun bound => by
      have := room _ bound
      omega
    obtain ⟨b, run41, at55, v2b, iterb⟩ := at41.run_i6b_busy low41 notReady more
    obtain ⟨u, later, done, v2u⟩ := ih at55 (fun y hy => busy y (List.mem_cons_of_mem x hy))
      (fun n bound => by have := room n bound; omega)
    refine ⟨u, ?_, ?_, v2u.trans (v2b.trans v2a)⟩
    · rw [List.length_cons, show 10 * (passes.length + 1) = 5 + (5 + 10 * passes.length) by omega,
        run_add _ _ _ _ run55, run_add _ _ _ _ run41, later]
    · rw [List.length_cons, loopFrames_succ, List.append_assoc]
      exact done

/-- INIT from its request to its first frame (R203 to R205). -/
theorem run_initRequest {s : State} (hb : s.busy = false) (stage : s.rxStage = .hold) :
    ∃ t u, exec .init s = .next t ∧ s.history <:+ t.history ∧ run 2 t = .next u ∧
      InitAt s u .i3 s.card [] := by
  obtain ⟨o, -, accepted⟩ := initRequest s hb
  exact ⟨_, _, accepted, List.suffix_cons _ _,
    run_closing ((run_one _).trans (step_i1 rfl rfl)) (step_i2 rfl rfl),
    rfl, rfl, stage, rfl, ⟨rfl, rfl, rfl, rfl, rfl, rfl, rfl⟩⟩

/-- The frames of INIT before its loop, newest first. -/
def openingFrames : List (List Byte) := [frame 58 0, frame 8 Config.cmd8Arg, frame 0 0]

/-- INIT from its request to the head of the loop, or to a voltage error (R203 to R211). -/
theorem run_initOpening {s : State} {r e0 e1 e2 e3 o0 o1 o2 o3 : Byte} {rest : List Byte} {v2 : Bool}
    (hb : s.busy = false) (stage : s.rxStage = .hold)
    (card : s.card = 0x01 :: r :: ([e0, e1, e2, e3] ++ 0x01 :: ([o0, o1, o2, o3] ++ rest)))
    (answer : r = 0x05 ∧ v2 = false ∨ r = 0x01 ∧ e3 = 0xAA ∧ v2 = true) :
    ∃ t u, exec .init s = .next t ∧ s.history <:+ t.history ∧ run 23 t = .next u ∧
      if Config.vddAcceptable (be32 o0 o1 o2 o3) = false then
        InitSoFar s u openingFrames ∧ u.answered .errVoltage 0xFF ∧ u.busReleased
      else InitAt s u .i6a rest openingFrames ∧ u.v2 = v2 ∧ u.iter = 0 := by
  obtain ⟨t, a, accepted, grown, run2, at0⟩ := run_initRequest hb stage
  rw [card] at at0
  obtain ⟨b, run0, at8⟩ := at0.run_i3
  obtain ⟨c, run8, at58, v2c⟩ := at8.run_i4 answer
  obtain ⟨u, run58, outcome⟩ := at58.run_i5
  have all : run (2 + (5 + (8 + 8))) t = .next u := by
    rw [run_add _ _ _ _ run2, run_add _ _ _ _ run0, run_add _ _ _ _ run8, run58]
  rw [v2c] at outcome
  exact ⟨t, u, accepted, grown, all, outcome⟩

/-- The new events of a run that sent these frames. -/
theorem exists_new_of_sent {s u : State} {frames : List (List Byte)} (grown : s.history <:+ u.history)
    (sent : sentFrames u.history = frames ++ sentFrames s.history) :
    ∃ new, u.history = new ++ s.history ∧ sentFrames new = frames := by
  obtain ⟨new, split⟩ := grown
  refine ⟨new, split.symm, ?_⟩
  rw [← split, sentFrames, List.filterMap_append] at sent
  exact List.append_cancel_right sent

/-- A block that has answered waits while no request is pending (R53). -/
theorem run_answered {m : Nat} {t u : State} {k : Kind} {st : Byte} (h : run m t = .next u)
    (answered : u.answered k st) (idle : u.requests = []) (n : Nat) : run (m + n) t = .next u :=
  (run_add m n _ _ h).trans (restWaits u n answered.1 idle)

/-- No frame that INIT sends a V1 card is a CMD9 (R209). -/
theorem v1Frames_head_ne_cmd9 : ∀ bytes ∈ frame 41 Config.acmd41Arg :: frame 55 0 :: openingFrames,
    bytes.head? ≠ some 0x49 := by
  decide +kernel

/-- Settles O47: the opening, then one pass of the loop and the READY answer. -/
theorem initV1Operation : Obligations.InitV1Operation := by
  intro s e0 e1 e2 e3 o0 o1 o2 o3 r55 rest hb stage idle low55 card
  obtain ⟨t, u, accepted, grown, opening, outcome⟩ := run_initOpening hb stage card (.inl ⟨rfl, rfl⟩)
  by_cases vdd : Config.vddAcceptable (be32 o0 o1 o2 o3) = false
  · simp only [if_pos vdd] at outcome ⊢
    obtain ⟨soFar, answered, released⟩ := outcome
    obtain ⟨new, split, sent⟩ := exists_new_of_sent (grown.trans (run_history _ opening)) soFar.sent
    have all := run_answered opening answered (soFar.requests.trans idle) 11
    refine ⟨t, u, new, accepted, all, split, released, soFar.mem, soFar.blocks, soFar.ccs,
      fun bytes sends => ?_, answered, soFar.clkHz⟩
    rw [← mem_sentFrames, sent] at sends
    exact v1Frames_head_ne_cmd9 bytes (List.mem_cons_of_mem _ (List.mem_cons_of_mem _ sends))
  · simp only [if_neg vdd] at outcome ⊢
    obtain ⟨at55, v2, -⟩ := outcome
    obtain ⟨a, run55, at41, v2a, -⟩ := at55.run_i6a low55
    obtain ⟨u, run41, ready⟩ := at41.run_i6b_v1 (v2a.trans v2)
    have all : run (23 + (5 + 6)) t = .next u := by
      rw [run_add _ _ _ _ opening, run_add _ _ _ _ run55, run41]
    obtain ⟨new, split, sent⟩ := exists_new_of_sent (grown.trans (run_history _ all)) ready.sent
    refine ⟨t, u, new, accepted, all, split, ready.released, ready.mem, ready.blocks, ready.ccs,
      fun bytes sends => ?_, ready.answered, ready.clkHz, ready.card⟩
    rw [← mem_sentFrames, sent] at sends
    exact v1Frames_head_ne_cmd9 bytes sends

/-- The last pass of a V2 card, the second CMD58 and the first CMD9 (R217 to R221). -/
theorem InitAt.run_v2Branch {s t : State} {r55 p0 p1 p2 p3 q : Byte} {discarded rest : List Byte}
    {frames : List (List Byte)}
    (h : InitAt s t .i6a
      (r55 :: 0x00 :: 0x00 :: ([p0, p1, p2, p3] ++ q :: 0xFE :: (discarded ++ rest))) frames)
    (v2 : t.v2 = true) (low55 : r55.getLsbD 7 = false) (powerUp : p0.getLsbD 7 = true)
    (lowq : q.getLsbD 7 = false) (length : discarded.length = 18) :
    ∃ u, run 29 t = .next u ∧
      InitAt s u .i9 rest ([frame 9 0, frame 58 0, frame 41 Config.acmd41Arg, frame 55 0] ++ frames) ∧
      u.ccsNew = p0.getLsbD 6 := by
  obtain ⟨a, run55, at41, v2a, -⟩ := h.run_i6a low55
  obtain ⟨b, run41, at58⟩ := at41.run_i6b_v2 (v2a.trans v2)
  obtain ⟨c, run58, at9, ccs⟩ := at58.run_i7 powerUp
  obtain ⟨u, run9, done, same⟩ := at9.run_i8 lowq length
  have all : run (5 + (5 + (8 + 11))) t = .next u := by
    rw [run_add _ _ _ _ run55, run_add _ _ _ _ run41, run_add _ _ _ _ run58, run9]
  exact ⟨u, all, done, same.trans ccs⟩

/-- The frames of INIT from its loop's last pass on, newest first (R217 to R222). -/
def closingFrames : List (List Byte) :=
  [frame 9 0, frame 9 0, frame 58 0, frame 41 Config.acmd41Arg, frame 55 0]

/-- INIT sends CMD55 and ACMD41 once a pass. -/
theorem count_initFrames (n : Nat) :
    (closingFrames ++ (loopFrames n ++ openingFrames)).count [0x77, 0x00, 0x00, 0x00, 0x00, 0x65] =
      n + 1 ∧
    (closingFrames ++ (loopFrames n ++ openingFrames)).count [0x69, 0x40, 0x00, 0x00, 0x00, 0x77] =
      n + 1 := by
  have closing : closingFrames.count [0x77, 0x00, 0x00, 0x00, 0x00, 0x65] = 1 ∧
      closingFrames.count [0x69, 0x40, 0x00, 0x00, 0x00, 0x77] = 1 := by decide +kernel
  have opening : openingFrames.count [0x77, 0x00, 0x00, 0x00, 0x00, 0x65] = 0 ∧
      openingFrames.count [0x69, 0x40, 0x00, 0x00, 0x00, 0x77] = 0 := by decide +kernel
  have pass : [frame 41 Config.acmd41Arg, frame 55 0].count [0x77, 0x00, 0x00, 0x00, 0x00, 0x65] = 1 ∧
      [frame 41 Config.acmd41Arg, frame 55 0].count [0x69, 0x40, 0x00, 0x00, 0x00, 0x77] = 1 := by
    decide +kernel
  simp only [loopFrames, List.count_append, List.count_flatten, List.map_replicate, List.sum_replicate,
    closing, opening, pass, smul_eq_mul]
  omega

/-- Settles O46: the opening, the loop, and the commands of the V2 branch. -/
theorem initV2Operation : Obligations.InitV2Operation := by
  intro s e0 e1 e2 o0 o1 o2 o3 r55 p0 p1 p2 p3 q c0 c1 passes discarded csd rest hb stage idle busy room
    low55 lowq powerUp lengthDiscarded lengthCsd card
  have script : s.card = 0x01 :: 0x01 :: ([e0, e1, e2, 0xAA] ++ 0x01 :: ([o0, o1, o2, o3] ++
      (passes.flatMap (fun x => [x.1, x.2]) ++ r55 :: 0x00 :: 0x00 :: ([p0, p1, p2, p3] ++
        q :: 0xFE :: (discarded ++ 0x00 :: 0xFE :: ((csd ++ [c0, c1]) ++ rest)))))) := by
    simp [card]
  obtain ⟨t, a, accepted, grown, opening, outcome⟩ :=
    run_initOpening hb stage script (.inr ⟨rfl, rfl, rfl⟩)
  by_cases vdd : Config.vddAcceptable (be32 o0 o1 o2 o3) = false
  · simp only [if_pos vdd] at outcome ⊢
    obtain ⟨soFar, answered, released⟩ := outcome
    have all := run_answered opening answered (soFar.requests.trans idle) (41 + 10 * passes.length)
    rw [← Nat.add_assoc] at all
    obtain ⟨new, split, -⟩ := exists_new_of_sent (grown.trans (run_history _ opening)) soFar.sent
    exact ⟨t, a, new, accepted, all, split, released, soFar.mem, soFar.crcOut, answered, soFar.blocks,
      soFar.ccs, soFar.clkHz⟩
  simp only [if_neg vdd] at outcome ⊢
  obtain ⟨at55, v2, start⟩ := outcome
  obtain ⟨b, loop, atLast, v2b⟩ := at55.run_busyPasses passes busy (by simpa [start] using room)
  obtain ⟨c, branch, at9, ccs⟩ := atLast.run_v2Branch (v2b.trans v2) low55 powerUp lowq lengthDiscarded
  have before : run (23 + (10 * passes.length + 29)) t = .next c := by
    rw [run_add _ _ _ _ opening, run_add _ _ _ _ loop, branch]
  have outcome := at9.run_i9 lengthCsd
  by_cases crc : crc16 csd 0 ≠ be16 c0 c1
  · simp only [if_pos crc] at outcome ⊢
    obtain ⟨u, last, soFar, answered, released, left⟩ := outcome
    have all := run_answered ((run_add _ 11 _ _ before).trans last) answered (soFar.requests.trans idle) 1
    obtain ⟨new, split, -⟩ := exists_new_of_sent (grown.trans (run_history _ all)) soFar.sent
    rw [show 23 + (10 * passes.length + 29) + 11 + 1 = 64 + 10 * passes.length by omega] at all
    exact ⟨t, u, new, accepted, all, split, released, soFar.mem, soFar.crcOut, answered, soFar.blocks,
      soFar.ccs, soFar.clkHz, left⟩
  · simp only [if_neg crc] at outcome ⊢
    obtain ⟨u, last, ready⟩ := outcome
    have all := (run_add _ 12 _ _ before).trans last
    obtain ⟨new, split, sent⟩ := exists_new_of_sent (grown.trans (run_history _ all)) ready.sent
    rw [show 23 + (10 * passes.length + 29) + 12 = 64 + 10 * passes.length by omega] at all
    obtain ⟨count55, count41⟩ := count_initFrames passes.length
    refine ⟨t, u, new, accepted, all, split, ready.released, ready.mem, ready.crcOut, ready.answered,
      ready.blocks, ready.ccs.trans ccs, ready.clkHz, ready.card, ?_, ?_⟩
    · rw [count_writeContinue, sent]
      exact count55
    · rw [count_writeContinue, sent]
      exact count41

end Sys2Proof.Machine

namespace Sys2Proof.Machine

/-! ### The labels of READ's token wait -/

section
variable {s : State} (hb : s.busy = true)
include hb

theorem step_b2 (phase : s.phase = ⟨.b2, .none⟩) : step s = .next (stepB2 s) := by
  rw [step_plain s hb (by rw [phase]) (by simp [phase]), advancePlain, phase]

/-- `B3`, the token apart (R109). -/
theorem step_b3 (phase : s.phase = ⟨.b3, .none⟩) (other : s.rxStage ≠ .release ∨ s.tok ≠ dataStartByte) :
    step s = .next (stepB3 s) := by
  rw [step_busy s hb (by simp [phase]) (.inr other), advance, if_pos hb, phase]
  simp only [advancePlain, phase]

theorem step_b4 (phase : s.phase = ⟨.b4, .none⟩) : step s = .next (stepB4 s) := by
  rw [step_plain s hb (by rw [phase]) (by simp [phase]), advancePlain, phase]

/-- The last event of a read of the wait: the token ends the wait, any other byte asks for the tick (R109,
R248). -/
theorem step_b3_release (phase : s.phase = ⟨.b3, .none⟩) (stage : s.rxStage = .release) :
    step s = .next { s.readDone with
      phase := if s.tok = 0xFE then ⟨.b5, .none⟩ else ⟨.b4, .none⟩ } := by
  by_cases token : s.tok = 0xFE
  · have pending := (tokenPending_iff s).mpr ⟨hb, by rw [phase]; rfl, stage⟩
    rw [if_pos token, step_pending_token s pending token, execDataStartToken, if_pos pending]
    dsimp only
    rw [if_pos (by simp [phase])]
    rfl
  · rw [if_neg token, step_b3 hb phase (.inr token), stepB3, rxBytes_release _ _ _ _ stage]
    rfl

end

/-- `s` after the read of a byte of the token wait (R248). -/
def State.tokenRead (s : State) : State := { s.received 1 with tok := s.nextByte }

/-- One read of the token wait (R109, R248). -/
theorem run_b3 {s : State} (hb : s.busy = true) (phase : s.phase = ⟨.b3, .none⟩) (stage : s.rxStage = .hold) :
    run 3 s = .next { s.tokenRead with
      phase := if s.nextByte = 0xFE then ⟨.b5, .none⟩ else ⟨.b4, .none⟩ } :=
  run_rxBytes stage
    (fun _ busy same _ other => step_b3 (busy.trans hb) (same.trans phase) (.inl other))
    (step_b3_release (s := s.latched 1 fun bs s => { s with tok := bs.headD 0 }) hb phase rfl)

theorem readTick_eq (s : State) : s.readTick = { s with
    ticks := s.ticks.tail, tickCount := if s.ticks = [] then s.tickCount + 1 else s.tickCount,
    history := .tick s.nextTick :: s.history } := by
  simp [State.readTick, State.log]

/-- `s` after a pass of the token wait whose byte was no token: the byte and the tick were read (R248). -/
def State.waited (s : State) : State := { s.tokenRead.readTick with now := s.nextTick }

/-- The tick decides whether the wait goes on or ends in the abort path (R248, R250). -/
theorem stepB4_eq {s : State} (other : s.tok ≠ dataStartByte) : stepB4 s =
    { s.readTick with
      now := s.nextTick, phase := if timedOut s.t0 s.nextTick then ⟨.b9, .t9⟩ else ⟨.b3, .none⟩ } := by
  unfold stepB4
  dsimp only
  rw [State.readTick_t0, State.readTick_tok, if_pos other]
  split_ifs <;> rfl

section
variable {s : State} (hb : s.busy = true) (phase : s.phase = ⟨.b3, .none⟩) (stage : s.rxStage = .hold)
include hb phase stage

/-- A pass of the token wait that the token ends (R109, R248). -/
theorem run_wait_token (token : s.nextByte = 0xFE) :
    run 3 s = .next { s.tokenRead with phase := ⟨.b5, .none⟩ } := by
  rw [run_b3 hb phase stage, if_pos token]

/-- A pass of the token wait whose byte is no token (R248, R250). -/
theorem run_wait_other (other : s.nextByte ≠ 0xFE) :
    run 4 s = .next { s.waited with
      phase := if timedOut s.t0 s.nextTick then ⟨.b9, .t9⟩ else ⟨.b3, .none⟩ } := by
  have read := run_b3 hb phase stage
  rw [if_neg other] at read
  rw [run_add 3 1 _ _ read, run_one, step_b4 (s := { s.tokenRead with phase := ⟨.b4, .none⟩ }) hb rfl,
    stepB4_eq (s := { s.tokenRead with phase := ⟨.b4, .none⟩ }) other]
  rfl

end

theorem timedOut_eq_false_iff (t0 now : Word) : timedOut t0 now = false ↔ elapsed t0 now < 100 :=
  decide_eq_false_iff_not.trans not_le

/-- The elapsed time as a difference in the naturals modulo 2^32 (R248). -/
theorem elapsed_eq (t0 now : Word) : elapsed t0 now = (now.toNat + 2 ^ 32 - t0.toNat) % 2 ^ 32 := by
  have bound := t0.isLt
  rw [elapsed, BitVec.toNat_sub]
  congr 1
  omega

/-! The bytes and the ticks of the passes by number. -/

theorem nextByte_byteAt (s : State) : s.nextByte = s.byteAt 0 := by
  rw [State.nextByte, incoming_one_byteAt, List.headD_cons]

theorem byteAt_waited (s : State) (p : Phase) (n : Nat) :
    { s.waited with phase := p }.byteAt n = s.byteAt (n + 1) :=
  byteAt_readContinue_one s n

theorem tickAt_waited (s : State) (p : Phase) (n : Nat) :
    { s.waited with phase := p }.tickAt n = s.tickAt (n + 1) :=
  tickAt_readTick s n

/-- The wait ends at the latest with the tick read that shows the deadline, whatever was read before
(R250, R289). -/
theorem run_wait_ends (n : Nat) : ∀ s : State, s.busy = true → s.phase = ⟨.b3, .none⟩ →
    s.rxStage = .hold → timedOut s.t0 (s.tickAt n) = true →
    ∃ m t, run m s = .next t ∧ (t.phase = ⟨.b5, .none⟩ ∨ t.phase = ⟨.b9, .t9⟩) := by
  induction n with
  | zero =>
    intro s hb phase stage due
    by_cases token : s.nextByte = 0xFE
    · exact ⟨3, _, run_wait_token hb phase stage token, .inl rfl⟩
    · refine ⟨4, _, run_wait_other hb phase stage token, .inr ?_⟩
      rw [nextTick_tickAt, if_pos due]
  | succ n ih =>
    intro s hb phase stage due
    by_cases token : s.nextByte = 0xFE
    · exact ⟨3, _, run_wait_token hb phase stage token, .inl rfl⟩
    have pass := run_wait_other hb phase stage token
    by_cases late : timedOut s.t0 s.nextTick = true
    · exact ⟨4, _, pass, .inr (if_pos late)⟩
    · rw [if_neg late] at pass
      obtain ⟨m, t, later, ended⟩ := ih { s.waited with phase := ⟨.b3, .none⟩ } hb rfl rfl
        (by rw [tickAt_waited]; exact due)
      exact ⟨4 + m, t, (run_add 4 m _ _ pass).trans later, ended⟩

/-- As long as neither a token nor the deadline comes the wait goes on (R248). -/
theorem run_wait_goesOn (n : Nat) : ∀ s : State, s.busy = true → s.phase = ⟨.b3, .none⟩ →
    s.rxStage = .hold → (∀ k, k < n → s.byteAt k ≠ 0xFE ∧ elapsed s.t0 (s.tickAt k) < 100) →
    ∃ t, run (4 * n) s = .next t ∧ t.phase = ⟨.b3, .none⟩ ∧ t.rxStage = .hold ∧ t.t0 = s.t0 := by
  induction n with
  | zero => exact fun s _ phase stage _ => ⟨s, rfl, phase, stage, rfl⟩
  | succ n ih =>
    intro s hb phase stage quiet
    obtain ⟨other, early⟩ := quiet 0 n.succ_pos
    rw [← nextByte_byteAt] at other
    rw [← nextTick_tickAt, ← timedOut_eq_false_iff] at early
    have pass := run_wait_other hb phase stage other
    rw [early, if_neg Bool.false_ne_true] at pass
    obtain ⟨t, later, waits⟩ := ih { s.waited with phase := ⟨.b3, .none⟩ } hb rfl rfl fun k hk => by
      rw [byteAt_waited, tickAt_waited]
      exact quiet (k + 1) (Nat.succ_lt_succ hk)
    refine ⟨t, ?_, waits⟩
    rw [Nat.mul_succ, Nat.add_comm, run_add _ _ _ _ pass, later]

/-- Settles O36: the two outcomes of a pass, and for any number of passes the two inductions over them. -/
theorem readTokenWait : Obligations.ReadTokenWait := by
  intro s hb
  refine ⟨fun phase => ?_, fun phase stage => ?_, fun phase stage live => ?_, fun phase stage n quiet => ?_⟩
  · rw [step_b2 hb phase, stepB2, readTick_eq]
    rfl
  · dsimp only
    rw [← elapsed_eq]
    by_cases token : s.nextByte = 0xFE
    · rw [if_pos token]
      exact run_wait_token hb phase stage token
    rw [if_neg token, run_wait_other hb phase stage token, State.waited, readTick_eq]
    by_cases early : elapsed s.t0 s.nextTick < 100
    · rw [if_pos early, (timedOut_eq_false_iff _ _).mpr early]
      rfl
    · rw [if_neg early, if_pos (Bool.eq_true_of_not_eq_false (mt (timedOut_eq_false_iff _ _).mp early))]
      rfl
  · obtain ⟨n, due⟩ := live
    exact run_wait_ends n s hb phase stage (decide_eq_true due)
  · exact run_wait_goesOn n s hb phase stage quiet

/-- Settles O39: the checks of `readResult` in order. -/
theorem readAnswers : Obligations.ReadAnswers := by
  intro s hb phase
  rw [step_closing s hb (by rw [phase]), afterTransaction, State.toggle_phase, phase]
  dsimp only
  rw [afterB9, readResult, State.toggle_r1, State.toggle_tok, State.toggle_acc16, State.toggle_rxCrc]
  simp only [payloadCrcOk, Bool.not_eq_true', beq_eq_false_iff_ne, dataStartByte]
  split_ifs <;> rfl

end Sys2Proof.Machine

namespace Sys2Proof.Machine

/-! ### What READ has put into its buffer -/

/-- Host memory is `before`, with these bytes at `buf` in order (R62, R251). -/
structure BufferHolds (before after : Memory) (buf : Handle) (bytes : List Byte) : Prop where
  wf : after.wf = true
  held : ∀ i, i < bytes.length → after.read (address buf i) = bytes.getD i 0
  kept : ∀ a, (∀ i, i < bytes.length → a ≠ address buf i) → after.read a = before.read a

theorem BufferHolds.nil {m : Memory} (wf : m.wf = true) (buf : Handle) : BufferHolds m m buf [] :=
  ⟨wf, nofun, fun _ _ => rfl⟩

/-- The next byte of the buffer is written. -/
theorem BufferHolds.snoc {m₀ m m' : Memory} {buf : Handle} {bytes : List Byte} {v : Byte}
    (h : BufferHolds m₀ m buf bytes) (wf : m'.wf = true)
    (written : m'.read (address buf bytes.length) = v)
    (kept : ∀ a, a ≠ address buf bytes.length → m'.read a = m.read a) :
    BufferHolds m₀ m' buf (bytes ++ [v]) where
  wf := wf
  held i hi := by
    rw [List.length_append, List.length_singleton] at hi
    by_cases last : i = bytes.length
    · subst last
      simpa using written
    · have before : i < bytes.length := by omega
      rw [kept _ (by simp only [address]; omega), h.held i before, List.getD_append _ _ _ _ before]
  kept a outside := by
    rw [List.length_append, List.length_singleton] at outside
    rw [kept a (outside _ (Nat.lt_succ_self _)),
      h.kept a fun i hi => outside i (Nat.lt_succ_of_lt hi)]

/-- The step of `B6` puts the next payload byte after the bytes in the buffer (R251). -/
theorem step_b6_buffer {m₀ : Memory} {s : State} {bytes : List Byte} (hb : s.busy = true)
    (phase : s.phase = ⟨.b6, .none⟩) (length : bytes.length = s.off)
    (buffer : BufferHolds m₀ s.mem s.ops.buf bytes) :
    ∃ m history, step s = .next { s with
        mem := m, acc16 := crc16 [s.pay[s.j.toNat]] s.acc16, j := s.j + 1,
        phase := if s.j = 511 then ⟨.b7, .none⟩ else ⟨.b6, .none⟩, history := history } ∧
      BufferHolds m₀ m s.ops.buf (bytes ++ [s.pay[s.j.toNat]]) ∧
      sentFrames history = sentFrames s.history := by
  obtain ⟨m, writes, written, kept, wf⟩ := payloadByte s hb phase buffer.wf
  exact ⟨m, _, writes, buffer.snoc wf (length ▸ written) (length ▸ kept), rfl⟩

theorem drop_payload (pay : Vector Byte 512) (j : BitVec 9) :
    pay.toList.drop j.toNat = pay[j.toNat] :: pay.toList.drop (j.toNat + 1) :=
  List.drop_eq_getElem_cons (by simpa using j.isLt)

/-- `B6` from the payload byte `j` to the last: the rest of `pay` goes to the buffer after the bytes there,
and into the CRC-16 (R251). -/
theorem run_b6 {m₀ : Memory} (n : Nat) : ∀ {s : State} {bytes : List Byte}, s.busy = true →
    s.phase = ⟨.b6, .none⟩ → s.j.toNat + n = 511 → bytes.length = s.off →
    BufferHolds m₀ s.mem s.ops.buf bytes →
    ∃ m history, run (n + 1) s = .next { s with
        mem := m, acc16 := crc16 (s.pay.toList.drop s.j.toNat) s.acc16, j := 0, phase := ⟨.b7, .none⟩,
        history := history } ∧
      BufferHolds m₀ m s.ops.buf (bytes ++ s.pay.toList.drop s.j.toNat) ∧
      sentFrames history = sentFrames s.history := by
  induction n with
  | zero =>
    intro s bytes hb phase left length buffer
    obtain ⟨m, history, writes, holds, sent⟩ := step_b6_buffer hb phase length buffer
    have last : s.j = 511 := by bv_omega
    have rest : s.pay.toList.drop s.j.toNat = [s.pay[s.j.toNat]] := by
      rw [drop_payload, List.drop_of_length_le (by simp; omega)]
    have wraps : s.j + 1 = 0 := by rw [last]; rfl
    rw [if_pos last, wraps] at writes
    rw [rest]
    exact ⟨m, history, (run_one s).trans writes, holds, sent⟩
  | succ n ih =>
    intro s bytes hb phase left length buffer
    obtain ⟨m, history, writes, holds, sent⟩ := step_b6_buffer hb phase length buffer
    have more : s.j ≠ 511 := by bv_omega
    have next : (s.j + 1).toNat = s.j.toNat + 1 := by bv_omega
    have rest : s.pay.toList.drop s.j.toNat = s.pay[s.j.toNat] :: s.pay.toList.drop (s.j + 1).toNat := by
      rw [drop_payload, next]
    rw [if_neg more] at writes
    obtain ⟨m', history', later, all, sent'⟩ := ih (s := { s with
        mem := m, acc16 := crc16 [s.pay[s.j.toNat]] s.acc16, j := s.j + 1, phase := ⟨.b6, .none⟩,
        history := history }) hb rfl (show (s.j + 1).toNat + n = 511 by omega)
      (by rw [List.length_append, length, List.length_singleton, State.off, State.off, next]; rfl) holds
    rw [run_succ _ _ _ writes, rest]
    refine ⟨m', history', later, ?_, sent'.trans sent⟩
    rw [List.append_assoc] at all
    exact all

/-! ### One block from a card that sends it at once -/

/-- The token wait against a card that sends the token at once (R109, R248). -/
theorem run_token_script {s : State} {rest : List Byte} (hb : s.busy = true)
    (phase : s.phase = ⟨.b3, .none⟩) (stage : s.rxStage = .hold) (card : s.card = 0xFE :: rest) :
    run 3 s = .next { s with
      card := rest, tok := 0xFE, phase := ⟨.b5, .none⟩, cs := .asserted, mosiHold := .released,
      rxStage := .hold, history := readEvents [0xFE] ++ s.history } := by
  have received : s.received 1 = _ := received_script (bs := [0xFE]) card
  have token := nextByte_script card
  rw [run_wait_token hb phase stage token, State.tokenRead, received, token]

/-- `B5` against a card that sends the payload (R251). -/
theorem run_b5_script {s : State} {payload rest : List Byte} (hb : s.busy = true)
    (phase : s.phase = ⟨.b5, .none⟩) (stage : s.rxStage = .hold) (card : s.card = payload ++ rest)
    (length : payload.length = 512) :
    run 3 s = .next { s with
      card := rest, pay := storeFrom s.pay 0 payload, acc16 := 0, j := 0, phase := ⟨.b6, .none⟩,
      cs := .asserted, mosiHold := .released, rxStage := .hold,
      history := readEvents payload ++ s.history } := by
  have received := received_script card
  have bytes := incoming_script s payload rest card
  rw [length] at received bytes
  rw [run_b5 hb phase stage, received, bytes]

/-- From `B2` to `B6`: the token comes at once and the payload is read (R248, R251). -/
theorem run_receive {s : State} {payload rest : List Byte} (hb : s.busy = true)
    (phase : s.phase = ⟨.b2, .none⟩) (stage : s.rxStage = .hold)
    (card : s.card = 0xFE :: (payload ++ rest)) (length : payload.length = 512) :
    run 7 s = .next { s with
      ticks := s.ticks.tail, tickCount := if s.ticks = [] then s.tickCount + 1 else s.tickCount,
      t0 := s.nextTick, tok := 0xFE, card := rest, pay := storeFrom s.pay 0 payload, acc16 := 0, j := 0,
      phase := ⟨.b6, .none⟩, cs := .asserted, mosiHold := .released, rxStage := .hold,
      history := readEvents payload ++ readEvents [0xFE] ++ .tick s.nextTick :: s.history } := by
  rw [List.append_assoc]
  calc run 7 s = run 6 _ := run_succ 6 _ _ ((readTokenWait s hb).1 phase)
    _ = run 3 _ := run_add 3 3 _ _ (run_token_script hb rfl stage card)
    _ = _ := run_b5_script hb rfl rfl rfl length

/-- What READ, begun at `s` with the operands `o`, has left at `t`: these bytes are in its buffer and these
frames were sent, newest first. -/
structure ReadSoFar (s : State) (o : Request) (t : State) (bytes : List Byte)
    (frames : List (List Byte)) : Prop where
  blocks : t.blocks = s.blocks
  ccs : t.ccs = s.ccs
  clkHz : t.clkHz = s.clkHz
  released : t.mosiHold = .released ∧ t.rxStage = .hold
  buffer : BufferHolds s.mem t.mem o.buf bytes
  sent : sentFrames t.history = frames ++ sentFrames s.history

/-- READ, begun at `s` with the operands `o`, stands at a label after a good R1, before a card that will send
`card`. -/
structure ReadAt (s : State) (o : Request) (t : State) (phase : Phase) (card bytes : List Byte)
    (frames : List (List Byte)) : Prop where
  busy : t.busy = true
  phase : t.phase = phase
  card : t.card = card
  r1 : t.r1 = 0x00
  ops : t.ops = o
  soFar : ReadSoFar s o t bytes frames

/-- The answer writes nothing of what READ has left. -/
theorem ReadSoFar.ended {s t : State} {o : Request} {bytes : List Byte} {frames : List (List Byte)}
    (h : ReadSoFar s o t bytes frames) (k : Kind) (st : Byte) :
    ReadSoFar s o (t.ended k st) bytes frames ∧ (t.ended k st).busReleased :=
  ⟨⟨h.blocks, h.ccs, h.clkHz, h.released, h.buffer, h.sent⟩, rfl, h.released⟩

section
variable {s t : State} {o : Request} {payload rest bytes : List Byte} {frames : List (List Byte)}

/-- From `B2` to `B6`: the token and the payload (R248, R251). -/
theorem ReadAt.run_receive (h : ReadAt s o t ⟨.b2, .none⟩ (0xFE :: (payload ++ rest)) bytes frames)
    (length : payload.length = 512) :
    ∃ u, run 7 t = .next u ∧ ReadAt s o u ⟨.b6, .none⟩ rest bytes frames ∧ u.pay.toList = payload ∧
      u.acc16 = 0 ∧ u.j = 0 ∧ u.tok = 0xFE ∧ u.blkI = t.blkI := by
  obtain ⟨busy, phase, card, r1, ops, blocks, ccs, clkHz, ⟨-, stage⟩, buffer, sent⟩ := h
  exact ⟨_, Machine.run_receive busy phase stage card length,
    ⟨busy, rfl, rfl, r1, ops, blocks, ccs, clkHz, ⟨rfl, rfl⟩, buffer, sent⟩,
    storeFrom_full _ _ length, rfl, rfl, rfl, rfl⟩

/-- `B6` as a whole: the payload goes to the buffer, after the bytes there (R251). -/
theorem ReadAt.run_deliver (h : ReadAt s o t ⟨.b6, .none⟩ rest bytes frames) (start : t.j = 0)
    (position : bytes.length = 512 * t.blkI.toNat) :
    ∃ u, run 512 t = .next u ∧ ReadAt s o u ⟨.b7, .none⟩ rest (bytes ++ t.pay.toList) frames ∧
      u.acc16 = crc16 t.pay.toList t.acc16 ∧ u.tok = t.tok ∧ u.blkI = t.blkI := by
  obtain ⟨busy, phase, card, r1, ops, blocks, ccs, clkHz, released, buffer, sent⟩ := h
  obtain ⟨m, history, delivered, holds, same⟩ := run_b6 511 busy phase (by rw [start]; rfl)
    (by rw [position, State.off, start]; rfl) (ops ▸ buffer)
  rw [start] at delivered holds
  exact ⟨_, delivered,
    ⟨busy, rfl, card, r1, ops, blocks, ccs, clkHz, released, ops ▸ holds, same.trans sent⟩, rfl, rfl, rfl⟩

/-- One block up to its CRC bytes (R248, R251). -/
theorem ReadAt.run_payload (h : ReadAt s o t ⟨.b2, .none⟩ (0xFE :: (payload ++ rest)) bytes frames)
    (length : payload.length = 512) (position : bytes.length = 512 * t.blkI.toNat) :
    ∃ u, run 519 t = .next u ∧ ReadAt s o u ⟨.b7, .none⟩ rest (bytes ++ payload) frames ∧
      u.acc16 = crc16 payload 0 ∧ u.tok = 0xFE ∧ u.blkI = t.blkI := by
  obtain ⟨a, received, atB6, pay, acc16, j, tok, blkI⟩ := h.run_receive length
  obtain ⟨u, delivered, atB7, crc, sameTok, sameBlkI⟩ := atB6.run_deliver j (blkI ▸ position)
  rw [pay] at atB7 crc
  exact ⟨u, (run_add 7 512 _ _ received).trans delivered, atB7, acc16 ▸ crc, sameTok.trans tok,
    sameBlkI.trans blkI⟩

/-- One block up to its CRC check: the received CRC is in `rx_crc` (R252). -/
theorem ReadAt.run_block {c0 c1 : Byte}
    (h : ReadAt s o t ⟨.b2, .none⟩ (0xFE :: (payload ++ c0 :: c1 :: rest)) bytes frames)
    (length : payload.length = 512) (position : bytes.length = 512 * t.blkI.toNat) :
    ∃ u, run 522 t = .next (afterB7 u) ∧ ReadAt s o u ⟨.b7, .none⟩ rest (bytes ++ payload) frames ∧
      u.acc16 = crc16 payload 0 ∧ u.rxCrc = be16 c0 c1 ∧ u.tok = 0xFE ∧ u.blkI = t.blkI := by
  obtain ⟨a, delivered, ⟨busy, phase, card, r1, ops, blocks, ccs, clkHz, ⟨-, stage⟩, buffer, sent⟩, acc16,
    tok, blkI⟩ := h.run_payload length position
  have received : a.received 2 = _ := received_script (bs := [c0, c1]) card
  have crc : a.incoming 2 = _ := incoming_script a [c0, c1] rest card
  have read := run_b7 busy phase stage
  rw [received, crc] at read
  exact ⟨_, (run_add 519 3 _ _ delivered).trans read,
    ⟨busy, phase, rfl, r1, ops, blocks, ccs, clkHz, ⟨rfl, rfl⟩, buffer, sent⟩, acc16, rfl, tok, blkI⟩

/-! ### READ of one block -/

/-- A single block is the last, and no CMD12 follows it: whatever its CRC, the transaction ends (R247, R253,
R255). -/
theorem afterB7_single {s : State} (count : s.ops.count = 1) :
    afterB7 s = { s with phase := ⟨.b9, .t9⟩ } := by
  have one : s.ops.count.toNat = 1 := by rw [count]; rfl
  rw [afterB7_eq, one, if_neg (show ¬ s.blkI.toNat + 1 < 1 by omega), if_neg (Nat.lt_irrefl 1), ite_self]

/-- READ of one block from the block loop to the answer, which its CRC decides (R252, R253, R256). -/
theorem ReadAt.run_single {c0 c1 : Byte}
    (h : ReadAt s o t ⟨.b2, .none⟩ (0xFE :: (payload ++ c0 :: c1 :: rest)) bytes frames)
    (length : payload.length = 512) (position : bytes.length = 512 * t.blkI.toNat) (count : o.count = 1) :
    ∃ u, run 523 t = .next u ∧
      (if crc16 payload 0 = be16 c0 c1 then u.answered .ok 0x00
       else u.answered .errCrc Config.statusCrcFail) ∧
      ReadSoFar s o u (bytes ++ payload) frames ∧ u.busReleased ∧ u.card = rest := by
  obtain ⟨a, block, ⟨busy, -, card, r1, ops, soFar⟩, acc16, rxCrc, tok, -⟩ := h.run_block length position
  rw [afterB7_single (ops ▸ count)] at block
  have ends := run_closing block (readAnswers { a with phase := ⟨.b9, .t9⟩ } busy rfl)
  rw [if_neg (not_not.mpr r1), if_neg (not_not.mpr tok)] at ends
  split_ifs with good <;> rw [← acc16, ← rxCrc] at good
  · rw [if_neg (not_not.mpr good)] at ends
    obtain ⟨left, released⟩ := soFar.ended .ok 0x00
    exact ⟨_, ends, ⟨rfl, rfl, rfl, rfl⟩, left, released, card⟩
  · rw [if_pos good] at ends
    obtain ⟨left, released⟩ := soFar.ended .errCrc Config.statusCrcFail
    exact ⟨_, ends, ⟨rfl, rfl, rfl, rfl⟩, left, released, card⟩

end

/-- READ from its request to the block loop, the range check passed and the first R1 good (R242 to R247). -/
theorem run_readOpening {s : State} {start count : Word} {buf : Handle} {rest : List Byte}
    (hb : s.busy = false) (stage : s.rxStage = .hold) (wf : s.mem.wf = true) (nonzero : count.toNat ≠ 0)
    (range : start.toNat + count.toNat - 1 ≤ s.blocks.toNat) (card : s.card = 0x00 :: rest) :
    ∃ t u o, exec (.read start count buf) s = .next t ∧ s.history <:+ t.history ∧ run 4 t = .next u ∧
      ReadAt s o u ⟨.b2, .none⟩ rest [] [frame (if count = 1 then 17 else 18) start] ∧
      o.count = count ∧ o.buf = buf ∧ u.blkI = 0 := by
  obtain ⟨o, -, rfl, rfl, rfl, accepted⟩ := readRequest s start count buf hb
  rw [if_neg (by omega)] at accepted
  obtain ⟨attempt, poll⟩ := run_reply (s := { s with
      busy := true, ops := o, freeCount := s.freeCount + 1, phase := { major := .b1, minor := .t1 },
      history := .request (.read o.start o.count o.buf) :: s.history })
    (idx := if o.count = 1 then 17 else 18) (arg := o.start) (size := none) rfl rfl stage rfl card (by decide)
  rw [afterPoll_b1 _ _ rfl] at poll
  exact ⟨_, _, o, accepted, List.suffix_cons _ _, poll,
    ⟨rfl, rfl, rfl, rfl, rfl, rfl, rfl, rfl, ⟨rfl, rfl⟩, .nil wf _, rfl⟩, rfl, rfl, rfl⟩

/-- Settles O48: the opening, then the block and the answer. -/
theorem readOneBlock : Obligations.ReadOneBlock := by
  intro s start buf payload rest c0 c1 hb stage wf range length card
  have script : s.card = 0x00 :: 0xFE :: (payload ++ c0 :: c1 :: rest) := by simp [card]
  obtain ⟨t, a, o, accepted, -, opening, atB2, count, rfl, blkI⟩ :=
    run_readOpening (start := start) (count := 1) (buf := buf) hb stage wf (by decide)
      (by simpa using range) script
  obtain ⟨u, block, answer, soFar, released, left⟩ := atB2.run_single length (by rw [blkI]; rfl) count
  obtain ⟨-, held, kept⟩ := soFar.buffer
  rw [List.nil_append, length] at held kept
  exact ⟨t, u, accepted, (run_add 4 523 _ _ opening).trans block, answer, held, kept, released, soFar.blocks,
    soFar.ccs, soFar.clkHz, left⟩

end Sys2Proof.Machine

namespace Sys2Proof.Machine

/-! ### READ of several blocks -/

/-- What the card sends for a block at once: the token, the payload and its CRC-16 (R109, R252). -/
def blockBytes (payload : List Byte) : List Byte := 0xFE :: payload ++ bytes16 (crc16 payload 0)

section
variable {s t : State} {o : Request} {payload rest bytes : List Byte} {frames : List (List Byte)}

/-- The exits of `B7` write the label and the block index only (R247, R255). -/
theorem ReadAt.goes {label : Phase} (h : ReadAt s o t label rest bytes frames) (blkI : Word) (next : Phase) :
    ReadAt s o { t with blkI := blkI, phase := next } next rest bytes frames := by
  obtain ⟨busy, -, card, r1, ops, blocks, ccs, clkHz, released, buffer, sent⟩ := h
  exact ⟨busy, rfl, card, r1, ops, blocks, ccs, clkHz, released, buffer, sent⟩

/-- A block with its CRC right, up to the exit of `B7` (R252). -/
theorem ReadAt.run_goodBlock (h : ReadAt s o t ⟨.b2, .none⟩ (blockBytes payload ++ rest) bytes frames)
    (length : payload.length = 512) (position : bytes.length = 512 * t.blkI.toNat)
    (many : 1 < o.count.toNat) :
    ∃ u, run 522 t = .next u ∧ u.tok = 0xFE ∧ u.acc16 = u.rxCrc ∧
      if t.blkI.toNat + 1 < o.count.toNat then
        ReadAt s o u ⟨.b2, .none⟩ rest (bytes ++ payload) frames ∧ u.blkI = t.blkI + 1
      else ReadAt s o u ⟨.b8, .t1⟩ rest (bytes ++ payload) frames := by
  have script : blockBytes payload ++ rest = 0xFE :: (payload ++ (crc16 payload 0).extractLsb' 8 8 ::
      (crc16 payload 0).extractLsb' 0 8 :: rest) := by simp [blockBytes, bytes16]
  rw [script] at h
  obtain ⟨a, block, checked, acc16, rxCrc, tok, blkI⟩ := h.run_block length position
  have good : a.acc16 = a.rxCrc := by rw [acc16, rxCrc, be16_bytes]
  have count : a.ops.count = o.count := congrArg _ checked.ops
  rw [afterB7_eq, if_neg (not_not.mpr good), count, blkI] at block
  split_ifs with more
  · rw [if_pos more] at block
    exact ⟨_, block, tok, good, checked.goes _ _, rfl⟩
  · rw [if_neg more, if_pos many] at block
    exact ⟨_, block, tok, good, checked.goes _ _⟩

/-- CMD12 and the answer, which its R1 decides (R255 to R257). -/
theorem ReadAt.run_stop {q : Byte} (h : ReadAt s o t ⟨.b8, .t1⟩ (q :: rest) bytes frames)
    (tok : t.tok = 0xFE) (good : t.acc16 = t.rxCrc) (low : q.getLsbD 7 = false) :
    ∃ u, run 5 t = .next u ∧ (if q = 0x00 then u.answered .ok 0x00 else u.answered .errR1 q) ∧
      ReadSoFar s o u bytes (frame 12 0 :: frames) ∧ u.busReleased ∧ u.card = rest := by
  obtain ⟨busy, phase, card, -, -, blocks, ccs, clkHz, ⟨-, stage⟩, buffer, sent⟩ := h
  obtain ⟨attempt, poll⟩ := run_reply busy (by rw [phase]) stage (by rw [State.command, phase]) card low
  rw [afterPoll_b8 (s := t.replied _ _ _ _) _ _ (by rw [State.replied, phase])] at poll
  have soFar : ReadSoFar s o { t.replied (frame 12 0) q rest attempt with phase := ⟨.b9, .t9⟩ } bytes
      (frame 12 0 :: frames) :=
    ⟨blocks, ccs, clkHz, ⟨rfl, rfl⟩, buffer, congrArg (frame 12 0 :: ·) sent⟩
  have ends := run_closing poll (readAnswers _ busy rfl)
  split_ifs with ready
  · obtain ⟨left, released⟩ := soFar.ended .ok 0x00
    exact ⟨_, ends.trans (congrArg _ ((if_neg (not_not.mpr ready)).trans ((if_neg (not_not.mpr tok)).trans
      (if_neg (not_not.mpr good))))), ⟨rfl, rfl, rfl, rfl⟩, left, released, rfl⟩
  · obtain ⟨left, released⟩ := soFar.ended .errR1 q
    exact ⟨_, ends.trans (congrArg _ (if_pos ready)), ⟨rfl, rfl, rfl, rfl⟩, left, released, rfl⟩

end

/-- The block loop from any block to CMD12 (R247, R255). -/
theorem ReadAt.run_blocks {s : State} {o : Request} {rest : List Byte} {frames : List (List Byte)}
    (many : 1 < o.count.toNat) (payloads : List (List Byte)) :
    ∀ {t : State} {payload bytes : List Byte},
      ReadAt s o t ⟨.b2, .none⟩ ((payload :: payloads).flatMap blockBytes ++ rest) bytes frames →
      (∀ p ∈ payload :: payloads, p.length = 512) → bytes.length = 512 * t.blkI.toNat →
      t.blkI.toNat + (payloads.length + 1) = o.count.toNat →
      ∃ u, run (522 * (payloads.length + 1)) t = .next u ∧
        ReadAt s o u ⟨.b8, .t1⟩ rest (bytes ++ (payload :: payloads).flatten) frames ∧
        u.tok = 0xFE ∧ u.acc16 = u.rxCrc := by
  induction payloads with
  | nil =>
    intro t payload bytes h lengths position last
    rw [List.flatMap_singleton] at h
    obtain ⟨u, block, tok, good, atB8⟩ := h.run_goodBlock (lengths payload List.mem_cons_self) position many
    rw [List.length_nil] at last
    rw [if_neg (by omega)] at atB8
    exact ⟨u, block, by simpa using atB8, tok, good⟩
  | cons next payloads ih =>
    intro t payload bytes h lengths position left
    rw [List.length_cons] at left
    rw [List.flatMap_cons, List.append_assoc] at h
    have length := lengths payload List.mem_cons_self
    obtain ⟨a, block, -, -, atB2⟩ := h.run_goodBlock length position many
    rw [if_pos (by omega)] at atB2
    obtain ⟨atB2, blkI⟩ := atB2
    have index : a.blkI.toNat = t.blkI.toNat + 1 := by
      have bound := o.count.isLt
      rw [blkI]
      bv_omega
    obtain ⟨u, later, atB8, checks⟩ := ih atB2 (fun p hp => lengths p (List.mem_cons_of_mem _ hp))
      (by rw [List.length_append, position, length, index]; omega) (by omega)
    refine ⟨u, ?_, ?_, checks⟩
    · rw [List.length_cons, Nat.mul_succ, Nat.add_comm, run_add _ _ _ _ block, later]
    · rw [List.flatten_cons, ← List.append_assoc]
      exact atB8

/-- A read of several blocks sends CMD12 once, after CMD18 (R245, R255). -/
theorem count_cmd12 (start : Word) :
    [frame 12 0, frame 18 start].count [0x4C, 0x00, 0x00, 0x00, 0x00, 0x61] = 1 := by
  have cmd12 : frame 12 0 = [0x4C, 0x00, 0x00, 0x00, 0x00, 0x61] := by decide +kernel
  have cmd18 : frame 18 start ≠ [0x4C, 0x00, 0x00, 0x00, 0x00, 0x61] := fun same =>
    absurd (List.cons.inj same).1 (by decide)
  rw [cmd12, List.count_cons_self, List.count_cons_of_ne cmd18, List.count_nil]

/-- Settles O49: the opening, then the blocks, CMD12 and the answer. -/
theorem readManyBlocks : Obligations.ReadManyBlocks := by
  intro s start count buf payloads rest q hb stage wf number many range lengths low card
  obtain _ | ⟨payload, payloads⟩ := payloads
  · rw [List.length_nil] at number
    omega
  have script : s.card = 0x00 :: ((payload :: payloads).flatMap blockBytes ++ q :: rest) := card
  obtain ⟨t, a, o, accepted, grown, opening, atB2, rfl, rfl, blkI⟩ :=
    run_readOpening (buf := buf) hb stage wf (by omega) range script
  rw [List.length_cons] at number
  obtain ⟨b, blocks, atB8, tok, good⟩ := atB2.run_blocks many payloads lengths (by rw [blkI]; rfl)
    (by rw [blkI, number]; exact Nat.zero_add _)
  obtain ⟨u, stop, answer, soFar, released, left⟩ := atB8.run_stop tok good low
  have all : run (522 * o.count.toNat + 9) t = .next u := by
    rw [show 522 * o.count.toNat + 9 = 4 + (522 * (payloads.length + 1) + 5) by omega,
      run_add _ _ _ _ opening, run_add _ _ _ _ blocks, stop]
  obtain ⟨new, split, sent⟩ := exists_new_of_sent (grown.trans (run_history _ all)) soFar.sent
  obtain ⟨-, held, kept⟩ := soFar.buffer
  have size : (payload :: payloads).flatten.length = 512 * o.count.toNat := by
    rw [List.length_flatten, List.map_congr_left lengths, List.map_const', List.sum_replicate,
      List.length_cons, number, smul_eq_mul, Nat.mul_comm]
  rw [List.nil_append, size] at held kept
  have several : o.count ≠ 1 := by bv_omega
  refine ⟨t, u, new, accepted, all, answer, held, kept, split, ?_, released, soFar.blocks, soFar.ccs,
    soFar.clkHz, left⟩
  rw [count_writeContinue, sent, if_neg several]
  exact count_cmd12 start

end Sys2Proof.Machine

namespace Sys2Proof.Machine

/-! ### There is no fault

Progress, the other half of the control invariant (R270, R310): wherever the invariant lets the sequencer
stand, the step of that label answers. -/

/-- Every request a block at rest takes is answered or begins its operation (R24, R38, R93). -/
theorem exec_request_rest {s : State} (r : Request) (hb : s.busy = false) :
    ∃ t, exec r.toInstr s = .next t := by
  have accepted (i : Instr) (load : Request → Request) (run : State → State) :
      ∃ t, accept i load run s = .next t := ⟨_, accept_rest i load run s hb⟩
  have reserved (i : Instr) : ∃ t, answerReserved i s = .next t := ⟨_, if_neg (by simp [hb])⟩
  unfold Request.toInstr
  split_ifs
  · rw [exec, execInit]
    exact accepted _ _ _
  · rw [exec, execRead]
    exact accepted _ _ _
  · rw [exec, execCmd]
    exact accepted _ _ _
  · rw [exec, execCmdr]
    exact accepted _ _ _
  · rw [exec, execCrc7]
    exact accepted _ _ _
  · rw [exec, execCrc16]
    exact accepted _ _ _
  · exact reserved _
  · exact reserved _

theorem step_rest_next {s : State} (hb : s.busy = false) : ∃ t, step s = .next t := by
  cases hq : s.requests with
  | nil => exact ⟨s, step_rest_idle s hb hq⟩
  | cons r rs =>
    rw [step_rest_request s r rs hb hq]
    exact exec_request_rest r hb

/-- A pending token is taken in either wait (R109). -/
theorem execDataStartToken_next {s : State} (pending : s.tokenPending = true) :
    ∃ t, execDataStartToken s = .next t := by
  by_cases major : s.phase.major = .b3
  · exact ⟨_, execDataStartToken_b3 pending major⟩
  · exact ⟨_, execDataStartToken_t3 pending major⟩

/-- Every label outside the transactions has an event of its own (R36, R37). -/
theorem advancePlain_next {s : State} (running : s.phase.major ≠ .idle)
    (legal : Minor.none ∈ s.phase.major.minors) : ∃ t, advancePlain s = .next t := by
  unfold advancePlain
  cases major : s.phase.major <;> simp_all [Major.minors]

/-- The frame and the R1 poll belong to a step that sends a command (R36, R161). -/
theorem command_of_mem_minors {s : State}
    (legal : Minor.t1 ∈ s.phase.major.minors ∨ Minor.t2 ∈ s.phase.major.minors) :
    ∃ idx arg size, s.command = some (idx, arg, size) := by
  unfold State.command
  cases major : s.phase.major <;> simp_all [Major.minors]

/-- The additional bytes belong to a step that runs `SendCommandWithResult` (R164). -/
theorem call_of_mem_minors {s : State} (legal : Minor.t4 ∈ s.phase.major.minors) :
    ∃ idx arg n, s.command = some (idx, arg, some n) := by
  unfold State.command
  cases major : s.phase.major <;> simp_all [Major.minors]

/-- The register-token poll belongs to a step that may send CMD9 or CMD10 (R164, R165). -/
theorem awaitsToken_of_mem_minors {p : Phase} (minor : p.minor = .t3) (legal : Minor.t3 ∈ p.major.minors) :
    p.awaitsToken = true := by
  refine (awaitsToken_iff p).mpr (.inr ⟨minor, ?_⟩)
  cases major : p.major <;> simp_all [Major.minors]

/-- At every label that R36 gives to a running operation the block has a step. -/
theorem step_busy_next {s : State} (hb : s.busy = true) (running : s.phase.major ≠ .idle)
    (legal : s.phase.minor ∈ s.phase.major.minors) : ∃ t, step s = .next t := by
  by_cases token : s.tokenPending = true ∧ s.tok = dataStartByte
  · rw [step_pending_token s token.1 token.2]
    exact execDataStartToken_next token.1
  have other : s.phase.awaitsToken = false ∨ s.rxStage ≠ .release ∨ s.tok ≠ dataStartByte := by
    rw [tokenPending_iff] at token
    cases waits : s.phase.awaitsToken <;> tauto
  cases minor : s.phase.minor with
  | none =>
    rw [step_busy s hb (by simp [minor]) other, advance, if_pos hb, minor]
    exact advancePlain_next running (minor ▸ legal)
  | t1 =>
    obtain ⟨idx, arg, size, command⟩ := command_of_mem_minors (.inl (minor ▸ legal))
    exact ⟨_, step_frame s idx arg size hb minor command⟩
  | t2 =>
    obtain ⟨idx, arg, size, command⟩ := command_of_mem_minors (.inr (minor ▸ legal))
    exact ⟨_, step_poll s _ hb minor command⟩
  | t3 =>
    have waits := awaitsToken_of_mem_minors minor (minor ▸ legal)
    exact ⟨_, step_search s hb minor waits (other.resolve_left (by simp [waits]))⟩
  | t4 =>
    obtain ⟨idx, arg, n, command⟩ := call_of_mem_minors (minor ▸ legal)
    exact ⟨_, step_additional s idx arg n hb minor command⟩
  | t9 =>
    rw [step_closing s hb minor]
    exact afterTransaction_next (s := s.toggle 1) (minor ▸ legal)

/-- Settles O56: at rest every request has a meaning, and while an operation runs the invariant gives the
block a label that has a step. -/
theorem everyStepGoesOn : Obligations.EveryStepGoesOn := by
  intro s inv
  cases hb : s.busy with
  | false => exact step_rest_next hb
  | true => exact step_busy_next hb (inv.running hb).1 (inv.running hb).2

end Sys2Proof.Machine
